-- ==== Sys2Proof/Word.lean ====
section
/-! DEFINITION. The word and byte types of WSN-CORE (00_scope.md R10: unsigned bit vectors of a stated width). -/

namespace Sys2Proof

/-- A 16-bit word: an operation word (30_encoding.md R80), `lfsr`, `seq_no`, `reading`. -/
abbrev Word := BitVec 16

/-- A byte: one byte of `pkt`, an immediate, `rnd`, `sleep_cnt`, `upc`. -/
abbrev Byte := BitVec 8

/-- One conversion result, `ADC_WIDTH` = 10 bits (00_scope.md R8). -/
abbrev Sample := BitVec 10

end Sys2Proof
end

