-- ==== Sys2Proof/Config.lean ====
section
/-! DEFINITION. The parameters of WSN-CORE (00_scope.md R8), the free moves of the agents, and the names of
the durations. An OPEN parameter is an opaque constant with no body: whatever is proved holds for every value. -/

namespace Sys2Proof

/-- What moves next (10_state.md R20). A collaborator's move carries the input it brings: the schedule of the
agents and the converter's `draw(ADC_WIDTH)` are free inputs (10_state.md R47, 41_adc.md R139). -/
inductive Move where
  | seq                            -- SEQ takes a step (45_control.md R221)
  | adcDone (sample : Sample)      -- ADCAGENT completes a conversion (41_adc.md R139)
  | alarmExpire                    -- ALARMAGENT: the alarm expires (44_sleep.md R206)
  | alarmDeliver                   -- the periodic-alarm signal is delivered (60_exceptions.md R247)
  | powerLoss                      -- ENV: power-on reset (70_reset_and_hazards.md R280)
deriving DecidableEq, Repr, Inhabited

/-- The three named durations of a `WAIT` event (10_state.md R44). -/
inductive Duration where
  | settle   -- T_SETTLE
  | half     -- T_HALF
  | tail     -- T_TAIL
deriving DecidableEq, Repr

namespace Config

/-- The identification string (00_scope.md R1). -/
def identification : String := "WSN-CORE/1"

/-! Widths and lengths: the spec's decided values (D3, D9, D10, D21). Log entry 11. -/

/-- `SEQ_BYTES`, decided D9. -/
def seqBytes : Nat := 2
/-- `READING_BYTES`, decided D10. -/
def readingBytes : Nat := 2
/-- `ADC_WIDTH`, decided D10. -/
def adcWidth : Nat := 10
/-- `PKT_LEN = 1 + SEQ_BYTES + 1 + READING_BYTES + 1`. -/
def pktLen : Nat := 1 + seqBytes + 1 + readingBytes + 1
/-- `CNT_W`, decided D21. -/
def cntW : Nat := 8
/-- `UPC_W`, decided D3. -/
def upcW : Nat := 8
/-- `ROM_LEN = 26 + PKT_LEN`, decided D3. -/
def romLen : Nat := 26 + pktLen

/-! Durations in microseconds. The magnitudes are the reference values (70_reset_and_hazards.md R301); only
`baseIter` depends on two of them. -/

/-- `T_HALF`, reference 0.5 ms. -/
def tHalf : Nat := 500
/-- `T_SETTLE`, reference 0.1 ms. -/
def tSettle : Nat := 100
/-- `T_ALARM`, reference 2 s. -/
def tAlarm : Nat := 2000000
/-- `T_TARGET`, reference 234 s. -/
def tTarget : Nat := 234000000
/-- `T_TAIL >= 0`, OPEN (D19). Log entry 9. -/
opaque tTail : Nat

/-- `BASE_ITER = floor(T_TARGET / T_ALARM)` (D21). -/
def baseIter : Nat := tTarget / tAlarm
/-- `JITTER_MASK`. -/
def jitterMask : Byte := 7#8
/-- `LFSR_MIX_MASK`: bits 15 and 3. -/
def lfsrMixMask : Word := 0x8008#16
/-- `PREAMBLE`. -/
def preamble : List Byte := [0xFF#8, 0xFF#8, 0xFF#8, 0xFF#8, 0x7F#8]

/-! OPEN parameters. Log entries 9 and 10. -/

/-- `LFSR_SEED`: any 16-bit value, 0 included (D6). -/
opaque lfsrSeed : Word
/-- One less than `LFSR_RESEED`: so that the reseed constant is any non-zero 16-bit value and never zero. -/
opaque lfsrReseedPred : Fin 65535
/-- `LFSR_RESEED`: must be non-zero (40_lfsr.md R117, D6). -/
def lfsrReseed : Word := BitVec.ofNat 16 (lfsrReseedPred.val + 1)
/-- `NODE_ID` (D11). -/
opaque nodeId : Byte
/-- `TYPE_TEMP` (D11). -/
opaque typeTemp : Byte
/-- `CHECKSUM`: a total function of the `PKT_LEN - 1` bytes (42_packet.md R154, D12). -/
opaque checksum : List Byte → Byte
/-- `ADC_REF`, an opaque token (41_adc.md R132, D14). -/
opaque adcRef : Nat
/-- `ADC_CHAN`, an opaque token. -/
opaque adcChan : Nat
/-- `ADC_DIV`, an opaque token. -/
opaque adcDiv : Nat

/-- The free move number `n`: which agent moves, and with what sample, where the state has not decided it.
No body: every schedule and every draw is admitted. Log entry 1. -/
opaque freeMove : Nat → Move

end Config

/-- How long a named duration is, in microseconds. -/
def Duration.micros : Duration → Nat
  | .settle => Config.tSettle
  | .half => Config.tHalf
  | .tail => Config.tTail

end Sys2Proof
end

