-- ==== Sys2Proof/Syntax.lean ====
section
/-! DEFINITION. The 23 operations of WSN-CORE, one constructor per row of 30_encoding.md R82. -/

namespace Sys2Proof

/-- An operation (30_encoding.md R82). Four take the unsigned 8-bit immediate (R81); every other operand is
implicit. -/
inductive Instr where
  | ctlJmp (imm : Byte)     -- CTL.JMP imm: absolute word index of the target
  | lfsrStep                -- LFSR.STEP
  | lfsrNext                -- LFSR.NEXT
  | lfsrMix (imm : Byte)    -- LFSR.MIX imm: the sample byte
  | adcPwrup                -- ADC.PWRUP
  | adcCfg                  -- ADC.CFG
  | adcStart                -- ADC.START
  | adcWait                 -- ADC.WAIT
  | adcDrop                 -- ADC.DROP
  | adcTake                 -- ADC.TAKE
  | adcPwrdn                -- ADC.PWRDN
  | pktSeqinc               -- PKT.SEQINC
  | pktBuild                -- PKT.BUILD
  | pktCksum                -- PKT.CKSUM
  | txPwrup                 -- TX.PWRUP
  | txSendi (imm : Byte)    -- TX.SENDI imm: the byte to serialize
  | txSendp (imm : Byte)    -- TX.SENDP imm: byte offset into pkt
  | txTail                  -- TX.TAIL
  | txPwrdn                 -- TX.PWRDN
  | slpCalc                 -- SLP.CALC
  | slpArm                  -- SLP.ARM
  | slpWait                 -- SLP.WAIT
  | slpDisarm               -- SLP.DISARM
deriving DecidableEq, Repr

end Sys2Proof
end

