-- ==== Sys2Proof/Decode.lean ====
section
/-! DEFINITION. Operation words (30_encoding.md Part A): the fields, the decoder, the encoder, and the rows of
the operation map R82 with their match and mask. -/

namespace Sys2Proof

/-- Why a word is illegal (30_encoding.md R83). -/
inductive IllegalWord where
  | reservedUnit   -- `unit` 6 to 15
  | reservedFn     -- an `fn` the unit does not have
  | immNotZero     -- a non-zero `imm` on an operation without an immediate
deriving DecidableEq, Repr

/-- Bits 15:12 (30_encoding.md R80). -/
def wordUnit (w : Word) : BitVec 4 := w.extractLsb' 12 4

/-- Bits 11:8. -/
def wordFn (w : Word) : BitVec 4 := w.extractLsb' 8 4

/-- Bits 7:0. -/
def wordImm (w : Word) : Byte := w.extractLsb' 0 8

/-- The word with the given fields, `U F II` (30_encoding.md R80). -/
def packWord (unit fn : BitVec 4) (imm : Byte) : Word := unit ++ fn ++ imm

/-- An operation without an immediate: its `imm` field must be 0x00 (30_encoding.md R80, R83). -/
def noImm (i : Instr) (imm : Byte) : Except IllegalWord Instr :=
  if imm = 0#8 then .ok i else .error .immNotZero

/-- The operation map R82, by unit and function. -/
def decodeFields (unit fn : Nat) (imm : Byte) : Except IllegalWord Instr :=
  match unit with
  | 0 =>
    match fn with
    | 1 => .ok (.ctlJmp imm)
    | _ => .error .reservedFn
  | 1 =>
    match fn with
    | 0 => noImm .lfsrStep imm
    | 1 => noImm .lfsrNext imm
    | 2 => .ok (.lfsrMix imm)
    | _ => .error .reservedFn
  | 2 =>
    match fn with
    | 0 => noImm .adcPwrup imm
    | 1 => noImm .adcCfg imm
    | 2 => noImm .adcStart imm
    | 3 => noImm .adcWait imm
    | 4 => noImm .adcDrop imm
    | 5 => noImm .adcTake imm
    | 6 => noImm .adcPwrdn imm
    | _ => .error .reservedFn
  | 3 =>
    match fn with
    | 0 => noImm .pktSeqinc imm
    | 1 => noImm .pktBuild imm
    | 2 => noImm .pktCksum imm
    | _ => .error .reservedFn
  | 4 =>
    match fn with
    | 0 => noImm .txPwrup imm
    | 1 => .ok (.txSendi imm)
    | 2 => .ok (.txSendp imm)
    | 3 => noImm .txTail imm
    | 4 => noImm .txPwrdn imm
    | _ => .error .reservedFn
  | 5 =>
    match fn with
    | 0 => noImm .slpCalc imm
    | 1 => noImm .slpArm imm
    | 2 => noImm .slpWait imm
    | 3 => noImm .slpDisarm imm
    | _ => .error .reservedFn
  | _ => .error .reservedUnit

/-- The decoder: total, an operation or the reason the word is illegal (30_encoding.md R83). -/
def decode (w : Word) : Except IllegalWord Instr :=
  decodeFields (wordUnit w).toNat (wordFn w).toNat (wordImm w)

/-- The encoder: the word of an operation (30_encoding.md R82). -/
def encode : Instr → Word
  | .ctlJmp imm => packWord 0x0#4 0x1#4 imm
  | .lfsrStep => packWord 0x1#4 0x0#4 0x00#8
  | .lfsrNext => packWord 0x1#4 0x1#4 0x00#8
  | .lfsrMix imm => packWord 0x1#4 0x2#4 imm
  | .adcPwrup => packWord 0x2#4 0x0#4 0x00#8
  | .adcCfg => packWord 0x2#4 0x1#4 0x00#8
  | .adcStart => packWord 0x2#4 0x2#4 0x00#8
  | .adcWait => packWord 0x2#4 0x3#4 0x00#8
  | .adcDrop => packWord 0x2#4 0x4#4 0x00#8
  | .adcTake => packWord 0x2#4 0x5#4 0x00#8
  | .adcPwrdn => packWord 0x2#4 0x6#4 0x00#8
  | .pktSeqinc => packWord 0x3#4 0x0#4 0x00#8
  | .pktBuild => packWord 0x3#4 0x1#4 0x00#8
  | .pktCksum => packWord 0x3#4 0x2#4 0x00#8
  | .txPwrup => packWord 0x4#4 0x0#4 0x00#8
  | .txSendi imm => packWord 0x4#4 0x1#4 imm
  | .txSendp imm => packWord 0x4#4 0x2#4 imm
  | .txTail => packWord 0x4#4 0x3#4 0x00#8
  | .txPwrdn => packWord 0x4#4 0x4#4 0x00#8
  | .slpCalc => packWord 0x5#4 0x0#4 0x00#8
  | .slpArm => packWord 0x5#4 0x1#4 0x00#8
  | .slpWait => packWord 0x5#4 0x2#4 0x00#8
  | .slpDisarm => packWord 0x5#4 0x3#4 0x00#8

/-- A row of the operation map: a word `w` selects it when `w & mask == pattern` (30_encoding.md R82). -/
structure Row where
  mnemonic : String
  pattern : Word
  mask : Word
deriving DecidableEq, Repr

/-- `w & mask == match`. -/
def Row.selects (r : Row) (w : Word) : Bool := w &&& r.mask == r.pattern

/-- The row of R82 an operation stands on, its match and mask copied from the table. -/
def Instr.row : Instr → Row
  | .ctlJmp _ => ⟨"CTL.JMP", 0x0100#16, 0xFF00#16⟩
  | .lfsrStep => ⟨"LFSR.STEP", 0x1000#16, 0xFFFF#16⟩
  | .lfsrNext => ⟨"LFSR.NEXT", 0x1100#16, 0xFFFF#16⟩
  | .lfsrMix _ => ⟨"LFSR.MIX", 0x1200#16, 0xFF00#16⟩
  | .adcPwrup => ⟨"ADC.PWRUP", 0x2000#16, 0xFFFF#16⟩
  | .adcCfg => ⟨"ADC.CFG", 0x2100#16, 0xFFFF#16⟩
  | .adcStart => ⟨"ADC.START", 0x2200#16, 0xFFFF#16⟩
  | .adcWait => ⟨"ADC.WAIT", 0x2300#16, 0xFFFF#16⟩
  | .adcDrop => ⟨"ADC.DROP", 0x2400#16, 0xFFFF#16⟩
  | .adcTake => ⟨"ADC.TAKE", 0x2500#16, 0xFFFF#16⟩
  | .adcPwrdn => ⟨"ADC.PWRDN", 0x2600#16, 0xFFFF#16⟩
  | .pktSeqinc => ⟨"PKT.SEQINC", 0x3000#16, 0xFFFF#16⟩
  | .pktBuild => ⟨"PKT.BUILD", 0x3100#16, 0xFFFF#16⟩
  | .pktCksum => ⟨"PKT.CKSUM", 0x3200#16, 0xFFFF#16⟩
  | .txPwrup => ⟨"TX.PWRUP", 0x4000#16, 0xFFFF#16⟩
  | .txSendi _ => ⟨"TX.SENDI", 0x4100#16, 0xFF00#16⟩
  | .txSendp _ => ⟨"TX.SENDP", 0x4200#16, 0xFF00#16⟩
  | .txTail => ⟨"TX.TAIL", 0x4300#16, 0xFFFF#16⟩
  | .txPwrdn => ⟨"TX.PWRDN", 0x4400#16, 0xFFFF#16⟩
  | .slpCalc => ⟨"SLP.CALC", 0x5000#16, 0xFFFF#16⟩
  | .slpArm => ⟨"SLP.ARM", 0x5100#16, 0xFFFF#16⟩
  | .slpWait => ⟨"SLP.WAIT", 0x5200#16, 0xFFFF#16⟩
  | .slpDisarm => ⟨"SLP.DISARM", 0x5300#16, 0xFFFF#16⟩

/-- The operation map R82, in the table's order. -/
def opcodeTable : List Row :=
  [ (Instr.ctlJmp 0#8).row, Instr.lfsrStep.row, Instr.lfsrNext.row, (Instr.lfsrMix 0#8).row,
    Instr.adcPwrup.row, Instr.adcCfg.row, Instr.adcStart.row, Instr.adcWait.row,
    Instr.adcDrop.row, Instr.adcTake.row, Instr.adcPwrdn.row, Instr.pktSeqinc.row,
    Instr.pktBuild.row, Instr.pktCksum.row, Instr.txPwrup.row, (Instr.txSendi 0#8).row,
    (Instr.txSendp 0#8).row, Instr.txTail.row, Instr.txPwrdn.row, Instr.slpCalc.row,
    Instr.slpArm.row, Instr.slpWait.row, Instr.slpDisarm.row ]

/-- The 16-bit word whose low `nbits` bits are those of `w` and whose other bits are 0. A word of WSN-CORE is
one 16-bit unit with no byte order (20_memory.md R63), so bit `k` of `w` is bit `k` of the word. -/
def tableWord (nbits w : Nat) : Word := BitVec.ofNat 16 (w % 2 ^ nbits)

/-- What the decoder reads from the table's bits `w` of an instruction of `nbits` bits. -/
def decodeTableWord (nbits w : Nat) : Option Instr :=
  match decode (tableWord nbits w) with
  | .ok i => some i
  | .error _ => none

end Sys2Proof
end

