-- ==== Sys2Proof/Machine/Rom.lean ====
section
/-! DEFINITION. The control ROM (45_control.md R224), the pseudo-operations it is the expansion of
(30_encoding.md R86), and the loop states of 10_state.md R26. -/

namespace Sys2Proof.Machine

/-- The control ROM for `PKT_LEN` = 7: 33 words, indices 0x00 to 0x20 (45_control.md R224). -/
def controlRom : List Word :=
  [ 0x2000#16, 0x2100#16, 0x2200#16, 0x2300#16, 0x2400#16, 0x2200#16, 0x2300#16, 0x2500#16,
    0x2600#16, 0x3000#16, 0x3100#16, 0x4000#16, 0x41FF#16, 0x41FF#16, 0x41FF#16, 0x41FF#16,
    0x417F#16, 0x3200#16, 0x4200#16, 0x4201#16, 0x4202#16, 0x4203#16, 0x4204#16, 0x4205#16,
    0x4206#16, 0x4300#16, 0x4400#16, 0x1100#16, 0x5000#16, 0x5100#16, 0x5200#16, 0x5300#16,
    0x0100#16 ]

/-! Pseudo-operations (30_encoding.md R86). -/

/-- `NEXT_RANDOM_BYTE`. -/
def nextRandomByte : List Instr := [.lfsrNext]

/-- `MIX_ENTROPY b`. -/
def mixEntropy (b : Byte) : List Instr := [.lfsrMix b]

/-- `CONVERT`. -/
def convert : List Instr := [.adcStart, .adcWait]

/-- `READ_TEMPERATURE`. -/
def readTemperature : List Instr :=
  [.adcPwrup, .adcCfg] ++ convert ++ [.adcDrop] ++ convert ++ [.adcTake, .adcPwrdn]

/-- `BUILD_PACKET`. -/
def buildPacket : List Instr := [.pktSeqinc, .pktBuild]

/-- `SEND_PREAMBLE`. -/
def sendPreamble : List Instr := Config.preamble.map .txSendi

/-- `SEND_PACKET`: offsets 0 to `PKT_LEN - 1` in increasing order. -/
def sendPacket : List Instr := (List.range Config.pktLen).map fun a => .txSendp (BitVec.ofNat 8 a)

/-- `TRANSMIT`. -/
def transmit : List Instr := [.txPwrup] ++ sendPreamble ++ [.pktCksum] ++ sendPacket ++ [.txTail, .txPwrdn]

/-- `DEEP_SLEEP`. -/
def deepSleep : List Instr := nextRandomByte ++ [.slpCalc, .slpArm, .slpWait, .slpDisarm]

/-- `MAIN_LOOP`. -/
def mainLoop : List Instr := readTemperature ++ buildPacket ++ transmit ++ deepSleep ++ [.ctlJmp 0x00#8]

/-- The source's states of the main loop (45_control.md R220). -/
inductive LoopState where
  | sample
  | transmit
  | sleep
deriving DecidableEq, Repr

/-- Which loop state a ROM index belongs to (10_state.md R26); none beyond the ROM. -/
def loopStateAt (upc : Nat) : Option LoopState :=
  if upc ≤ 0x0A then some .sample
  else if upc ≤ 0x1A then some .transmit
  else if upc ≤ 0x20 then some .sleep
  else none

end Sys2Proof.Machine
end

