-- ==== Sys2Proof/Machine/State.lean ====
section
/-! DEFINITION. The state of WSN-CORE as plain data (10_state.md), its events, its outcomes, and the state
after power-on reset (10_state.md R46). -/

namespace Sys2Proof.Machine

/-- The power states of SEQ (10_state.md R28, 60_exceptions.md R260); the port's code 3 is unused. -/
inductive LpState where
  | run
  | light
  | deep
deriving DecidableEq, Repr

/-- The opaque triple `adc_cfg`: (reference, channel, clock-divider) (10_state.md R28). -/
structure AdcConfig where
  ref : Nat
  chan : Nat
  div : Nat
deriving DecidableEq, Repr

/-- An event of the output trace (10_state.md R44). -/
inductive Event where
  | sensor (v : Bool)
  | radio (v : Bool)
  | oe (v : Bool)
  | level (v : Bool)
  | adcCfg (c : AdcConfig)
  | adcEn (en ie : Bool)
  | adcStart
  | almReset
  | wakeEn (v : Bool)
  | lp (v : LpState)
  | wait (d : Duration)
deriving DecidableEq, Repr

/-- The machine's state: what 10_state.md names, and the model's own fields `text`, `trace`, `moves`, `tick`. -/
structure State where
  /-- Program text, fixed: the control ROM for the hardware (R47, 45_control.md R224). Log entry 2. -/
  text : List Word
  /-- Micro-program counter, a word index (R26). -/
  upc : Byte
  /-- Entropy register (R22). -/
  lfsr : Word
  /-- Last byte returned by `next_random_byte` (R25). -/
  rnd : Byte
  /-- Packet sequence counter (R23). -/
  seqNo : Word
  /-- Last captured conversion, zero-extended (R24). -/
  reading : Word
  /-- Remaining sleep iterations (R25). -/
  sleepCnt : Byte
  /-- The packet buffer as (offset, byte) cells in canonical form (20_memory.md R60). -/
  pkt : List Host.Cell
  /-- Conversion-complete flag (R27). -/
  convDone : Bool
  /-- Alarm-expired flag (R27). -/
  alarmFlag : Bool
  /-- Sensor supply on (R28). -/
  sensorPwr : Bool
  /-- Radio transmitter powered (R28). -/
  radioPwr : Bool
  /-- Transmit line driven (R28). -/
  txOe : Bool
  /-- Transmit level latch (R28). -/
  txLevel : Bool
  /-- Converter enabled (R28). -/
  adcEn : Bool
  /-- Conversion-complete signal enabled (R28). -/
  adcIe : Bool
  /-- Converter configuration (R28). -/
  adcCfg : AdcConfig
  /-- Periodic-alarm wake signal enabled (R28). -/
  wakeEn : Bool
  /-- Power state of SEQ (R28). -/
  lpState : LpState
  /-- Serializer shift register (R42). -/
  txSr : Byte
  /-- Serializer bit index (R42). -/
  txBitcnt : BitVec 3
  /-- Serializer half-bit slot: false first, true second (R42). -/
  txHalf : Bool
  /-- A conversion is in progress (R42). -/
  adcBusy : Bool
  /-- Result of the last completed conversion (R42, R40). -/
  adcData : Sample
  /-- Output trace, oldest event first (R44). Log entry 16. -/
  trace : List Event
  /-- The moves already decided, next one first (R47). Log entry 1. -/
  moves : List Move
  /-- How many free moves have been drawn. Log entry 1. -/
  tick : Nat
deriving DecidableEq, Repr

/-- No fault exists: "WSN-CORE raises no synchronous exception" (60_exceptions.md R240). Nobody raises one. -/
inductive Fault where
deriving DecidableEq, Repr

/-- The spec's `refuse(reason)` (45_control.md R222): a word or operand the spec gives no meaning. -/
inductive Refusal where
  /-- Raised by `exec` for an instruction without a meaning; no arm of this model does. Safe. -/
  | notModelled (mnemonic : String)
  /-- Raised by SEQ's step when `upc` is at or beyond the end of the text (45_control.md R221). Safe: the
  spec refuses too. -/
  | fetchBeyondText
  /-- Raised by SEQ's step on an illegal word (30_encoding.md R83). Safe: the spec refuses too. -/
  | illegalWord (why : IllegalWord)
  /-- Raised by TX.SENDP with an offset at or above `PKT_LEN` (43_tx.md R174). Safe: the spec refuses too. -/
  | offsetOutsidePkt
  /-- Raised by CTL.JMP to an index at or beyond the end of the text (45_control.md R223). Safe: the spec
  refuses too. -/
  | jumpOutsideText
deriving DecidableEq, Repr

/-- The outcome of one step of this machine. -/
abbrev Result := Host.Outcome State Fault Refusal

/-- After power-on reset (10_state.md R46, 70_reset_and_hazards.md R280). Registers the spec leaves
unspecified hold the values of log entry 7; `lfsr` holds the parameter `LFSR_SEED`; no packet byte is listed
(log entry 8). -/
def State.reset : State where
  text := controlRom
  upc := 0x00#8
  lfsr := Config.lfsrSeed
  rnd := 0x00#8
  seqNo := 0x0000#16
  reading := 0x0000#16
  sleepCnt := 0x00#8
  pkt := []
  convDone := false
  alarmFlag := false
  sensorPwr := false
  radioPwr := false
  txOe := false
  txLevel := false
  adcEn := false
  adcIe := false
  adcCfg := ⟨0, 0, 0⟩
  wakeEn := false
  lpState := .run
  txSr := 0x00#8
  txBitcnt := 0#3
  txHalf := false
  adcBusy := false
  adcData := 0#10
  trace := []
  moves := []
  tick := 0

end Sys2Proof.Machine
end

