-- ==== Sys2Proof/Machine/Ops.lean ====
section
/-! DEFINITION. The shared operations: memory cells, the packet buffer, the output trace, `upc`, and the
delivery of the two signals with their implicit return (60_exceptions.md R246 to R249). -/

namespace Sys2Proof.Machine

/-- What an unlisted packet byte reads as. The spec leaves `pkt` unspecified at reset. DESIGN CHOICE, unsafe:
log entry 8. -/
def Memory.unlisted : Byte := 0x00#8

/-- The byte at address `a`. -/
def Memory.read : List Host.Cell → Nat → Byte
  | [], _ => Memory.unlisted
  | (k, v) :: rest, a => if k = a then v else Memory.read rest a

/-- The cells without those at address `a`. -/
def Memory.erase : List Host.Cell → Nat → List Host.Cell
  | [], _ => []
  | (k, v) :: rest, a => if k = a then Memory.erase rest a else (k, v) :: Memory.erase rest a

/-- The cells with `(a, v)` put before the first higher address. -/
def Memory.insert : List Host.Cell → Nat → Byte → List Host.Cell
  | [], a, v => [(a, v)]
  | (k, w) :: rest, a, v => if a < k then (a, v) :: (k, w) :: rest else (k, w) :: Memory.insert rest a v

/-- Write one byte, keeping the canonical form: a byte equal to what an unlisted address reads as is not listed. -/
def Memory.write (m : List Host.Cell) (a : Nat) (v : Byte) : List Host.Cell :=
  if v = Memory.unlisted then Memory.erase m a else Memory.insert (Memory.erase m a) a v

/-- Every address of `m` is at least `lo`, addresses strictly rise, and no cell holds the unlisted value. -/
def Memory.wfFrom : Nat → List Host.Cell → Bool
  | _, [] => true
  | lo, (k, v) :: rest => decide (lo ≤ k) && decide (v ≠ Memory.unlisted) && Memory.wfFrom (k + 1) rest

/-- The canonical form: equal memories are equal lists. -/
def Memory.wf (m : List Host.Cell) : Bool := Memory.wfFrom 0 m

/-- Every listed address lies in `pkt`: offsets 0 to `PKT_LEN - 1` (20_memory.md R60). -/
def Memory.inPkt (m : List Host.Cell) : Bool := m.all fun c => decide (c.1 < Config.pktLen)

/-- `MemRead(addr, n)`: `n` bytes from `addr`, the byte at `addr` least significant (00_scope.md R11,
20_memory.md R63). -/
def Memory.readLE (m : List Host.Cell) (a : Nat) : Nat → Nat
  | 0 => 0
  | n + 1 => (Memory.read m a).toNat + 256 * Memory.readLE m (a + 1) n

/-- `MemWrite(addr, n, v)`: `pkt[addr + k] = v[8k+7 : 8k]` (00_scope.md R11, 20_memory.md R63). -/
def Memory.writeLE (m : List Host.Cell) (a : Nat) : Nat → Nat → List Host.Cell
  | 0, _ => m
  | n + 1, v => Memory.writeLE (Memory.write m a (BitVec.ofNat 8 v)) (a + 1) n (v / 256)

/-- `pkt[a]`. -/
def State.pktRead (s : State) (a : Nat) : Byte := Memory.read s.pkt a

/-- The first `n` packet bytes, in increasing offset. -/
def State.pktBytes (s : State) (n : Nat) : List Byte := (List.range n).map s.pktRead

/-- `MemWrite` on `pkt`. -/
def State.pktWrite (s : State) (a n v : Nat) : State := { s with pkt := Memory.writeLE s.pkt a n v }

/-- `emit`, for several events in order (00_scope.md R11, 10_state.md R44). -/
def State.emit (s : State) (es : List Event) : State := { s with trace := s.trace ++ es }

/-- `upc <- upc + 1`, modulo `2^UPC_W` (10_state.md R26). -/
def State.advance (s : State) : State := { s with upc := s.upc + 1#8 }

/-- The wake of a delivered signal: `if lp_state != RUN then lp_state <- RUN; emit(LP(RUN))`
(60_exceptions.md R245 to R247). SEQ then continues at the same `upc`: the return is implicit (R249). -/
def State.wake (s : State) : State :=
  if s.lpState = .run then s else { s with lpState := .run }.emit [.lp .run]

/-- Delivery of CONV, one indivisible step (60_exceptions.md R246). Nothing is saved or redirected (R248). -/
def State.takeConv (s : State) : State := { s with convDone := true }.wake

/-- Delivery of ALARM, one indivisible step (60_exceptions.md R247). -/
def State.takeAlarm (s : State) : State := { s with alarmFlag := false }.wake

end Sys2Proof.Machine
end

