-- ==== Sys2Proof/Machine/Flags.lean ====
section
/-! DEFINITION. The two event flags (10_state.md R27) and the conditions under which the two signals are
delivered (60_exceptions.md R243). There are no arithmetic condition codes. -/

namespace Sys2Proof.Machine

/-- `conv_done <- 0` (ADC.START). -/
def State.clearConvDone (s : State) : State := { s with convDone := false }

/-- `alarm_flag <- 1` (ALARMAGENT expiry, 44_sleep.md R206). -/
def State.setAlarmFlag (s : State) : State := { s with alarmFlag := true }

/-- `alarm_flag <- 0` (SLP.ARM). -/
def State.clearAlarmFlag (s : State) : State := { s with alarmFlag := false }

/-- CONV is delivered at a completion if `adc_ie` = 1; otherwise the completion is lost (60_exceptions.md R243). -/
def State.convDeliverable (s : State) : Bool := s.adcIe

/-- ALARM is delivered whenever `wake_en` = 1 and `alarm_flag` = 1 (60_exceptions.md R243). -/
def State.alarmDeliverable (s : State) : Bool := s.wakeEn && s.alarmFlag

end Sys2Proof.Machine
end

