-- ==== Sys2Proof/Machine/Agents.lean ====
section
/-! DEFINITION. The agents other than SEQ (10_state.md R20): their steps, and whose move comes next. A move
whose condition does not hold changes nothing (log entry 3). -/

namespace Sys2Proof.Machine

/-- The next move: the first decided one, or, when none is decided, a free one. Log entry 1. -/
def State.nextMove (s : State) : Move :=
  match s.moves with
  | m :: _ => m
  | [] => Config.freeMove s.tick

/-- The state with the next move used up. -/
def State.popMove (s : State) : State :=
  match s.moves with
  | _ :: rest => { s with moves := rest }
  | [] => { s with tick := s.tick + 1 }

/-- ADCAGENT: a conversion in progress completes with the drawn sample, and CONV is delivered if enabled
(41_adc.md R139). Enabled when `adc_busy` = 1. -/
def State.adcComplete (s : State) (sample : Sample) : State :=
  if s.adcBusy then
    let done := { s with adcBusy := false, adcData := sample }
    if done.convDeliverable then done.takeConv else done
  else s

/-- ALARMAGENT: an expiry, always enabled (44_sleep.md R206). -/
def State.alarmExpire (s : State) : State := s.setAlarmFlag

/-- ALARMAGENT: delivery of the signal, enabled when `wake_en` = 1 and `alarm_flag` = 1 (60_exceptions.md R247). -/
def State.alarmDeliver (s : State) : State := if s.alarmDeliverable then s.takeAlarm else s

/-- ENV: power-on reset. The hardware's state becomes that of 10_state.md R46; the fixed text and the model's
schedule, which are no state of the hardware, stay (70_reset_and_hazards.md R280, 10_state.md R47). -/
def State.powerLoss (s : State) : State :=
  { State.reset with text := s.text, moves := s.moves, tick := s.tick }

end Sys2Proof.Machine
end

