-- ==== Sys2Proof/Machine/Operands.lean ====
section
/-! DEFINITION. The operand forms (30_encoding.md R81): the immediates with their legality (R83) and the parts
of implicit operands that operations use. -/

namespace Sys2Proof.Machine

/-- CTL.JMP's target: `imm` itself, legal below the length of the text (45_control.md R223). -/
def jumpTarget (textLen : Nat) (imm : Byte) : Option Byte :=
  if imm.toNat < textLen then some imm else none

/-- TX.SENDP's offset: `imm` itself, legal below `PKT_LEN` (43_tx.md R174). -/
def pktOffset (imm : Byte) : Option Nat :=
  if imm.toNat < Config.pktLen then some imm.toNat else none

/-- `adc_data[7:0]` (41_adc.md R136). -/
def sampleLowByte (d : Sample) : Byte := d.extractLsb' 0 8

/-- `zext_{8*READING_BYTES}(adc_data)` (41_adc.md R136). -/
def sampleReading (d : Sample) : Word := d.setWidth 16

/-- `rnd & JITTER_MASK` (44_sleep.md R201). -/
def jitter (rnd : Byte) : Byte := rnd &&& Config.jitterMask

end Sys2Proof.Machine
end

