-- ==== Sys2Proof/Machine/Lfsr.lean ====
section
/-! DEFINITION. Unit LFSR (40_lfsr.md): the functions `lfsr_step`, `lfsr_next`, `lfsr_mix` and the operations
LFSR.STEP, LFSR.NEXT, LFSR.MIX. -/

namespace Sys2Proof.Machine

/-- The zero guard, before the shift: 0 is replaced by `LFSR_RESEED` (40_lfsr.md R111). -/
def lfsrGuard (reseed s : Word) : Word := if s = 0x0000#16 then reseed else s

/-- The feedback bit of a guarded state: bits 15, 13, 12, 10 XORed (40_lfsr.md R111). -/
def lfsrFeedback (g : Word) : Bool := g.getLsbD 15 ^^ g.getLsbD 13 ^^ g.getLsbD 12 ^^ g.getLsbD 10

/-- `lfsr_step`: the guarded state shifted left by one, the feedback bit entering at bit 0 (40_lfsr.md R111).
The reseed constant is an argument because it is an OPEN parameter. -/
def lfsrStep (reseed s : Word) : Word :=
  let g := lfsrGuard reseed s
  g.extractLsb' 0 15 ++ BitVec.ofBool (lfsrFeedback g)

/-- `n` applications of `lfsr_step`. -/
def lfsrSteps (reseed : Word) : Nat → Word → Word
  | 0, s => s
  | n + 1, s => lfsrSteps reseed n (lfsrStep reseed s)

/-- `lfsr_next`: eight steps, the guard inside each (40_lfsr.md R113). -/
def lfsrNext (reseed s : Word) : Word := lfsrSteps reseed 8 s

/-- `lfsr_mix`: if bit 0 of the sample byte is set and bits 15 and 3 differ, flip both (40_lfsr.md R115). -/
def lfsrMix (s : Word) (b : Byte) : Word :=
  if b.getLsbD 0 && (s.getLsbD 15 != s.getLsbD 3) then s ^^^ Config.lfsrMixMask else s

/-- LFSR.STEP (40_lfsr.md R111). -/
def execLfsrStep (s : State) : Result :=
  .next { s with lfsr := lfsrStep Config.lfsrReseed s.lfsr }.advance

/-- LFSR.NEXT: `rnd` is the low byte of the new `lfsr` (40_lfsr.md R113). -/
def execLfsrNext (s : State) : Result :=
  let l := lfsrNext Config.lfsrReseed s.lfsr
  .next { s with lfsr := l, rnd := l.extractLsb' 0 8 }.advance

/-- LFSR.MIX imm (40_lfsr.md R115). -/
def execLfsrMix (imm : Byte) (s : State) : Result :=
  .next { s with lfsr := lfsrMix s.lfsr imm }.advance

end Sys2Proof.Machine
end

