-- ==== Sys2Proof/Machine/Adc.lean ====
section
/-! DEFINITION. Unit ADC (41_adc.md): the operations of the analog sampling sequence. -/

namespace Sys2Proof.Machine

/-- `(ADC_REF, ADC_CHAN, ADC_DIV)`, opaque tokens (41_adc.md R132). -/
def adcConfigured : AdcConfig := ⟨Config.adcRef, Config.adcChan, Config.adcDiv⟩

/-- ADC.PWRUP (41_adc.md R131). -/
def execAdcPwrup (s : State) : Result :=
  .next ({ s with sensorPwr := true }.emit [.sensor true]).advance

/-- ADC.CFG (41_adc.md R132). -/
def execAdcCfg (s : State) : Result :=
  .next ({ s with adcCfg := adcConfigured, adcEn := true, adcIe := true }.emit
    [.adcCfg adcConfigured, .adcEn true true]).advance

/-- ADC.START: clear `conv_done`, then start a conversion if the converter is enabled (41_adc.md R133). -/
def execAdcStart (s : State) : Result :=
  let cleared := s.clearConvDone
  .next ({ cleared with adcBusy := cleared.adcBusy || cleared.adcEn }.emit [.adcStart]).advance

/-- ADC.WAIT: the test of `conv_done` and the entry to LIGHT are one indivisible step; a hold leaves `upc`
where it is (41_adc.md R134). -/
def execAdcWait (s : State) : Result :=
  if s.convDone then .next s.advance
  else .next ({ s with lpState := .light }.emit [.lp .light])

/-- ADC.DROP: `adc_data` is read and dropped; only `upc` changes (41_adc.md R135). -/
def execAdcDrop (s : State) : Result := .next s.advance

/-- ADC.TAKE: capture the result and mix its low byte (41_adc.md R136). -/
def execAdcTake (s : State) : Result :=
  .next { s with
    reading := sampleReading s.adcData
    lfsr := lfsrMix s.lfsr (sampleLowByte s.adcData) }.advance

/-- ADC.PWRDN: converter off, then supply off (41_adc.md R137). -/
def execAdcPwrdn (s : State) : Result :=
  let off := { s with adcEn := false, adcIe := false, adcBusy := false }.emit [.adcEn false false]
  .next ({ off with sensorPwr := false }.emit [.sensor false]).advance

end Sys2Proof.Machine
end

