-- ==== Sys2Proof/Machine/Ctl.lean ====
section
/-! DEFINITION. Unit CTL (45_control.md): the fetch and CTL.JMP. -/

namespace Sys2Proof.Machine

/-- The word SEQ performs next; none at or beyond the end of the text (45_control.md R221). -/
def State.fetch (s : State) : Option Word := s.text[s.upc.toNat]?

/-- CTL.JMP imm; a target outside the text is refused (45_control.md R223). -/
def execCtlJmp (imm : Byte) (s : State) : Result :=
  match jumpTarget s.text.length imm with
  | none => .refused .jumpOutsideText
  | some target => .next { s with upc := target }

/-- The text with `w` at index `i`, made long enough to reach it. -/
def placeWord (text : List Word) (i : Nat) (w : Word) : List Word :=
  if i < text.length then text.set i w else text ++ List.replicate (i - text.length) 0x0000#16 ++ [w]

end Sys2Proof.Machine
end

