-- ==== Sys2Proof/Machine/Pkt.lean ====
section
/-! DEFINITION. Unit PKT (42_packet.md): the packet layout (20_memory.md R61), the checksum instances SUM8 and
CRC8, and the operations PKT.SEQINC, PKT.BUILD, PKT.CKSUM. -/

namespace Sys2Proof.Machine

/-! Field offsets (20_memory.md R61). -/

/-- `node_id`. -/
def offNodeId : Nat := 0
/-- `seq_no`. -/
def offSeqNo : Nat := 1
/-- `reading_type`. -/
def offReadingType : Nat := 1 + Config.seqBytes
/-- `reading`. -/
def offReading : Nat := 2 + Config.seqBytes
/-- `checksum`, the last byte. -/
def offChecksum : Nat := Config.pktLen - 1

/-- The five writes of PKT.BUILD, in order, for a node id and a type tag (42_packet.md R152). -/
def State.layPacket (s : State) (nodeId typeTag : Byte) : State :=
  ((((s.pktWrite offNodeId 1 nodeId.toNat).pktWrite offSeqNo Config.seqBytes s.seqNo.toNat).pktWrite
    offReadingType 1 typeTag.toNat).pktWrite offReading Config.readingBytes s.reading.toNat).pktWrite
    offChecksum 1 0x00

/-- `pkt[PKT_LEN-1] <- f([pkt[0], ..., pkt[PKT_LEN-2]])` (42_packet.md R153). -/
def State.storeChecksum (s : State) (f : List Byte → Byte) : State :=
  s.pktWrite offChecksum 1 (f (s.pktBytes (Config.pktLen - 1))).toNat

/-- PKT.SEQINC: `seq_no + 1` modulo `2^(8*SEQ_BYTES)` (42_packet.md R151). -/
def execPktSeqinc (s : State) : Result := .next { s with seqNo := s.seqNo + 1#16 }.advance

/-- PKT.BUILD (42_packet.md R152). -/
def execPktBuild (s : State) : Result := .next (s.layPacket Config.nodeId Config.typeTemp).advance

/-- PKT.CKSUM (42_packet.md R153). -/
def execPktCksum (s : State) : Result := .next (s.storeChecksum Config.checksum).advance

/-! The two instances of `CHECKSUM` the spec defines for vectors; neither is claimed for the hardware. -/

/-- `SUM8`: the modulo-256 sum (42_packet.md R155). -/
def sum8 (bytes : List Byte) : Byte := bytes.foldl (· + ·) 0x00#8

/-- One of the eight repetitions of `CRC8`. -/
def crc8Bit (c : Byte) : Byte := if c.getLsbD 0 then (c >>> 1) ^^^ 0x8C#8 else c >>> 1

/-- `n` repetitions. -/
def crc8Bits : Nat → Byte → Byte
  | 0, c => c
  | n + 1, c => crc8Bits n (crc8Bit c)

/-- `CRC8`: reflected polynomial 0x8C, initial value 0x00, no final XOR (42_packet.md R156). -/
def crc8 (bytes : List Byte) : Byte := bytes.foldl (fun c b => crc8Bits 8 (c ^^^ b)) 0x00#8

end Sys2Proof.Machine
end

