-- ==== Sys2Proof/Machine/Slp.lean ====
section
/-! DEFINITION. Unit SLP (44_sleep.md): the operations of the sleep scheduler. -/

namespace Sys2Proof.Machine

/-- `BASE_ITER + zext_{CNT_W}(rnd & JITTER_MASK)` (44_sleep.md R201). -/
def sleepIterations (rnd : Byte) : Byte := BitVec.ofNat 8 Config.baseIter + jitter rnd

/-- SLP.CALC (44_sleep.md R201). -/
def execSlpCalc (s : State) : Result := .next { s with sleepCnt := sleepIterations s.rnd }.advance

/-- SLP.ARM, one indivisible step: restart the alarm, forget a stale expiry, enable the wake (44_sleep.md R202). -/
def execSlpArm (s : State) : Result :=
  .next ({ s.clearAlarmFlag with wakeEn := true }.emit [.almReset, .wakeEn true]).advance

/-- SLP.WAIT: complete at count 0, else decrement and enter DEEP; a hold leaves `upc` where it is
(44_sleep.md R203). -/
def execSlpWait (s : State) : Result :=
  if s.sleepCnt = 0x00#8 then .next s.advance
  else .next ({ s with sleepCnt := s.sleepCnt - 1#8, lpState := .deep }.emit [.lp .deep])

/-- SLP.DISARM; `alarm_flag` is not touched (44_sleep.md R205). -/
def execSlpDisarm (s : State) : Result :=
  .next ({ s with wakeEn := false }.emit [.wakeEn false]).advance

end Sys2Proof.Machine
end

