-- ==== Sys2Proof/Machine/Tx.lean ====
section
/-! DEFINITION. Unit TX (43_tx.md): the byte serializer and the operations of the Manchester transmitter. -/

namespace Sys2Proof.Machine

/-- A half-bit slot: `tx_level <- v; emit(LEVEL(v)); emit(WAIT(T_HALF))`. -/
def State.driveSlot (s : State) (v : Bool) : State :=
  { s with txLevel := v }.emit [.level v, .wait .half]

/-- One repetition of `send_byte`'s loop: the bit `tx_sr[0]` as two slots, then the shift (43_tx.md R175). -/
def State.sendBit (s : State) : State :=
  let first := { s.driveSlot (s.txSr.getLsbD 0) with txHalf := true }
  let second := { first.driveSlot (!first.txLevel) with txHalf := false }
  { second with txSr := second.txSr >>> 1, txBitcnt := second.txBitcnt + 1#3 }

/-- `n` bits. -/
def State.sendBits : Nat → State → State
  | 0, s => s
  | n + 1, s => State.sendBits n s.sendBit

/-- `send_byte(B)`, performed as one step of 32 events (43_tx.md R175). Log entry 5. -/
def State.sendByte (s : State) (b : Byte) : State :=
  State.sendBits 8 { s with txSr := b, txBitcnt := 0#3, txHalf := false }

/-- TX.PWRUP: radio on, then line driven, then the settle delay; the level latch is not written (43_tx.md R171). -/
def execTxPwrup (s : State) : Result :=
  let powered := { s with radioPwr := true }.emit [.radio true]
  let driven := { powered with txOe := true }.emit [.oe true]
  .next (driven.emit [.wait .settle]).advance

/-- TX.SENDI imm (43_tx.md R173). -/
def execTxSendi (imm : Byte) (s : State) : Result := .next (s.sendByte imm).advance

/-- TX.SENDP imm; an offset outside `pkt` is refused (43_tx.md R174). -/
def execTxSendp (imm : Byte) (s : State) : Result :=
  match pktOffset imm with
  | none => .refused .offsetOutsidePkt
  | some a => .next (s.sendByte (s.pktRead a)).advance

/-- TX.TAIL: a toggle of whatever the latch holds (43_tx.md R177). -/
def execTxTail (s : State) : Result :=
  .next ({ s with txLevel := !s.txLevel }.emit [.level (!s.txLevel), .wait .tail]).advance

/-- TX.PWRDN: radio off, then line released, then latch low (43_tx.md R178). -/
def execTxPwrdn (s : State) : Result :=
  let unpowered := { s with radioPwr := false }.emit [.radio false]
  let released := { unpowered with txOe := false }.emit [.oe false]
  .next ({ released with txLevel := false }.emit [.level false]).advance

end Sys2Proof.Machine
end

