-- ==== Sys2Proof/Machine/Dispatch.lean ====
section
/-! DEFINITION. The meaning of each operation: one arm per row of 30_encoding.md R82. `exec` performs the
operation whatever `lp_state` is; that SEQ steps only in RUN is in Machine/Seq.lean (60_exceptions.md R260). -/

namespace Sys2Proof.Machine

def exec (i : Instr) (s : State) : Host.Outcome State Fault Refusal :=
  match i with
  | .ctlJmp imm => Sys2Proof.Machine.execCtlJmp imm s
  | .lfsrStep => Sys2Proof.Machine.execLfsrStep s
  | .lfsrNext => Sys2Proof.Machine.execLfsrNext s
  | .lfsrMix imm => Sys2Proof.Machine.execLfsrMix imm s
  | .adcPwrup => Sys2Proof.Machine.execAdcPwrup s
  | .adcCfg => Sys2Proof.Machine.execAdcCfg s
  | .adcStart => Sys2Proof.Machine.execAdcStart s
  | .adcWait => Sys2Proof.Machine.execAdcWait s
  | .adcDrop => Sys2Proof.Machine.execAdcDrop s
  | .adcTake => Sys2Proof.Machine.execAdcTake s
  | .adcPwrdn => Sys2Proof.Machine.execAdcPwrdn s
  | .pktSeqinc => Sys2Proof.Machine.execPktSeqinc s
  | .pktBuild => Sys2Proof.Machine.execPktBuild s
  | .pktCksum => Sys2Proof.Machine.execPktCksum s
  | .txPwrup => Sys2Proof.Machine.execTxPwrup s
  | .txSendi imm => Sys2Proof.Machine.execTxSendi imm s
  | .txSendp imm => Sys2Proof.Machine.execTxSendp imm s
  | .txTail => Sys2Proof.Machine.execTxTail s
  | .txPwrdn => Sys2Proof.Machine.execTxPwrdn s
  | .slpCalc => Sys2Proof.Machine.execSlpCalc s
  | .slpArm => Sys2Proof.Machine.execSlpArm s
  | .slpWait => Sys2Proof.Machine.execSlpWait s
  | .slpDisarm => Sys2Proof.Machine.execSlpDisarm s

end Sys2Proof.Machine
end

