-- ==== Sys2Proof/Machine/Seq.lean ====
section
/-! DEFINITION. One step of SEQ (45_control.md R221) and one move of any agent (10_state.md R20). -/

namespace Sys2Proof.Machine

/-- SEQ's step, enabled only when `lp_state` = RUN: fetch, decode, perform (45_control.md R221,
60_exceptions.md R260). In LIGHT and DEEP SEQ takes no step. -/
def seqStep (s : State) : Result :=
  if s.lpState = .run then
    match s.fetch with
    | none => .refused .fetchBeyondText
    | some w =>
      match decode w with
      | .error why => .refused (.illegalWord why)
      | .ok i => exec i s
  else .next s

/-- A move of an agent (10_state.md R20). -/
def runMove (m : Move) (s : State) : Result :=
  match m with
  | .seq => seqStep s
  | .adcDone sample => .next (s.adcComplete sample)
  | .alarmExpire => .next s.alarmExpire
  | .alarmDeliver => .next s.alarmDeliver
  | .powerLoss => .next s.powerLoss

end Sys2Proof.Machine
end

