-- ==== Sys2Proof/Machine/Step.lean ====
section
/-! DEFINITION. One step of the machine: the next move, performed by its agent (10_state.md R20, 20_memory.md
R69); and how a word is placed for the next step to fetch. -/

namespace Sys2Proof.Machine

/-- One step: whichever agent moves next, moves. Log entry 1. -/
def step (s : State) : Host.Outcome State Fault Refusal := runMove s.nextMove s.popMove

/-- `s` with the word of the table's bits `w` where SEQ fetches next, SEQ awake, and SEQ's the next move, so
that the very next step performs it. Log entry 2. -/
def State.withFetchWord (s : State) (nbits w : Nat) : State :=
  { s with
    text := placeWord s.text s.upc.toNat (tableWord nbits w)
    lpState := .run
    moves := .seq :: s.moves }

end Sys2Proof.Machine
end

