-- ==== Sys2Proof/Machine/Ports.lean ====
section
/-! DEFINITION. The level outputs of WSN-CORE (10_state.md R40) and the three conditions of the transmit line
(R29). Pulse outputs are events of the trace; pulse inputs are moves of the collaborators. -/

namespace Sys2Proof.Machine

/-- The level outputs (10_state.md R40). -/
structure Ports where
  sensorPwr : Bool
  radioPwr : Bool
  txOe : Bool
  txLevel : Bool
  adcCfg : AdcConfig
  adcEn : Bool
  adcIe : Bool
  almPeriod : Nat
  wakeEn : Bool
  lpState : LpState
deriving DecidableEq, Repr

/-- The outputs in force in a state. `alm_period` is the constant `T_ALARM` from reset on
(70_reset_and_hazards.md R284). -/
def State.ports (s : State) : Ports where
  sensorPwr := s.sensorPwr
  radioPwr := s.radioPwr
  txOe := s.txOe
  txLevel := s.txLevel
  adcCfg := s.adcCfg
  adcEn := s.adcEn
  adcIe := s.adcIe
  almPeriod := Config.tAlarm
  wakeEn := s.wakeEn
  lpState := s.lpState

/-- The port's code of a power state: RUN = 0, LIGHT = 1, DEEP = 2 (10_state.md R28). -/
def LpState.code : LpState → BitVec 2
  | .run => 0#2
  | .light => 1#2
  | .deep => 2#2

/-- The conditions of the transmit line (10_state.md R29). -/
inductive LineCondition where
  | drivenHigh
  | drivenLow
  | released
deriving DecidableEq, Repr

/-- The condition of the line (10_state.md R29). -/
def State.line (s : State) : LineCondition :=
  if s.txOe then (if s.txLevel then .drivenHigh else .drivenLow) else .released

end Sys2Proof.Machine
end

