-- ==== Sys2Proof/Machine/Trace.lean ====
section
/-! DEFINITION. What an observer of the transmit line reads off the trace (10_state.md R44) and the wire
encodings it is compared with (30_encoding.md R90 to R93). -/

namespace Sys2Proof.Machine

/-- The two slot levels of a bit: `(b, ~b)` (30_encoding.md R90). -/
def manchesterBit (b : Bool) : List Bool := [b, !b]

/-- `manchester(B)`: 16 slot levels, bit 0 first (30_encoding.md R91). -/
def manchester (b : Byte) : List Bool := (List.range 8).flatMap fun i => manchesterBit (b.getLsbD i)

/-- `frame_levels(pkt)`: the preamble and packet bytes, then the tail level, the complement of the last
(30_encoding.md R92). -/
def frameLevels (pkt : List Byte) : List Bool :=
  let slots := (Config.preamble ++ pkt).flatMap manchester
  slots ++ [!(slots.getLastD false)]

/-- The events of half-bit slots at the given levels (43_tx.md R175). -/
def slotEvents (levels : List Bool) : List Event := levels.flatMap fun v => [.level v, .wait .half]

/-- A segment of the line waveform: line driven or not, level latch, duration (10_state.md R44). -/
structure Segment where
  oe : Bool
  level : Bool
  dur : Duration
deriving DecidableEq, Repr

/-- The segments of a trace, one for each `WAIT(d)` between `OE(1)` and `OE(0)`, given the line values in
force before it (10_state.md R44). -/
def waveformFrom (oe level : Bool) : List Event → List Segment
  | [] => []
  | .oe v :: rest => waveformFrom v level rest
  | .level v :: rest => waveformFrom oe v rest
  | .wait d :: rest =>
    if oe then ⟨oe, level, d⟩ :: waveformFrom oe level rest else waveformFrom oe level rest
  | .sensor _ :: rest => waveformFrom oe level rest
  | .radio _ :: rest => waveformFrom oe level rest
  | .adcCfg _ :: rest => waveformFrom oe level rest
  | .adcEn _ _ :: rest => waveformFrom oe level rest
  | .adcStart :: rest => waveformFrom oe level rest
  | .almReset :: rest => waveformFrom oe level rest
  | .wakeEn _ :: rest => waveformFrom oe level rest
  | .lp _ :: rest => waveformFrom oe level rest

/-- How long a waveform lasts, in microseconds (43_tx.md R180). -/
def lineTime (w : List Segment) : Nat := (w.map fun seg => seg.dur.micros).sum

/-- The waveform of a whole trace from reset: line released, latch low (10_state.md R46). -/
def waveform (trace : List Event) : List Segment := waveformFrom false false trace

end Sys2Proof.Machine
end

