-- ==== Sys2Proof/Safety.lean ====
section
/-! DEFINITION. The terms the claims use: invariants of the state, the hang, sequences of operations and moves,
and what an observer of the line decodes. -/

namespace Sys2Proof.Safety

open Sys2Proof.Machine

/-! ## Invariants -/

/-- What holds between steps whatever the program text is. -/
structure DataInv (s : State) : Prop where
  /-- The packet buffer is in canonical form. -/
  pktWf : Memory.wf s.pkt = true
  /-- Every listed packet byte has an offset below `PKT_LEN` (20_memory.md R60). -/
  pktInside : Memory.inPkt s.pkt = true
  /-- `reading` is a zero-extended `ADC_WIDTH`-bit result (10_state.md R24). -/
  readingFits : s.reading.toNat < 2 ^ Config.adcWidth
  /-- The converter and its signal are enabled and disabled together (41_adc.md R132, R137). -/
  enablesAgree : s.adcIe = s.adcEn
  /-- A conversion is in progress only in an enabled converter (41_adc.md R133, R137). -/
  busyEnabled : s.adcBusy = true → s.adcEn = true
  /-- The serializer rests between operations (43_tx.md R175). -/
  serializerRests : s.txSr = 0x00#8 ∧ s.txBitcnt = 0#3 ∧ s.txHalf = false

/-- What the control ROM arranges at each `upc` (45_control.md R225, R228; 70_reset_and_hazards.md R291, R298):
which supplies, enables and line drive are on, and where SEQ may be held. -/
structure RomInv (s : State) : Prop where
  text : s.text = controlRom
  inRom : s.upc.toNat < Config.romLen
  sensor : s.sensorPwr = decide (0x01 ≤ s.upc.toNat ∧ s.upc.toNat ≤ 0x08)
  converter : s.adcEn = decide (0x02 ≤ s.upc.toNat ∧ s.upc.toNat ≤ 0x08)
  convSignal : s.adcIe = s.adcEn
  busy : s.adcBusy = true → s.adcEn = true
  radio : s.radioPwr = decide (0x0C ≤ s.upc.toNat ∧ s.upc.toNat ≤ 0x1A)
  lineDriven : s.txOe = s.radioPwr
  latchIdle : s.txOe = false → s.txLevel = false
  wake : s.wakeEn = decide (0x1E ≤ s.upc.toNat ∧ s.upc.toNat ≤ 0x1F)
  heldLight : s.lpState = .light → s.upc.toNat = 0x03 ∨ s.upc.toNat = 0x06
  heldDeep : s.lpState = .deep → s.upc.toNat = 0x1E

/-- SEQ is held and nothing can deliver a signal: the hang of 60_exceptions.md R242. -/
def Hung (s : State) : Prop :=
  s.lpState ≠ .run ∧ (s.adcBusy = false ∨ s.adcIe = false) ∧ s.wakeEn = false

/-! ## Sequences -/

/-- The operations of a list, each performed to a next state, in program order (20_memory.md R68). -/
def execAll : List Instr → State → Result
  | [], s => .next s
  | i :: rest, s =>
    match exec i s with
    | .next t => execAll rest t
    | .fault f => .fault f
    | .refused r => .refused r

/-- `s` with `ms` decided as its next moves. -/
def withMoves (ms : List Move) (s : State) : State := { s with moves := ms ++ s.moves }

/-- An expiry of the alarm and the delivery of its signal (95_test_vectors.md 2.7). -/
def alarmTick (s : State) : State := s.alarmExpire.alarmDeliver

/-- `n` times: SLP.WAIT is performed, then the alarm ticks (44_sleep.md R203). -/
def sleepCycles : Nat → State → Result
  | 0, s => .next s
  | n + 1, s =>
    match exec .slpWait s with
    | .next t => sleepCycles n (alarmTick t)
    | .fault f => .fault f
    | .refused r => .refused r

/-- The boundary between two iterations of the main loop (70_reset_and_hazards.md R283): the ROM at index 0,
SEQ awake, everything off. -/
structure LoopStart (s : State) : Prop where
  text : s.text = controlRom
  upc : s.upc = 0x00#8
  awake : s.lpState = .run
  supplies : s.sensorPwr = false ∧ s.radioPwr = false
  line : s.txOe = false ∧ s.txLevel = false
  converter : s.adcEn = false ∧ s.adcIe = false ∧ s.adcBusy = false
  wake : s.wakeEn = false

/-- The moves of READ_TEMPERATURE when each conversion completes after SEQ entered LIGHT
(95_test_vectors.md 3.4). -/
def samplingMoves (a1 a2 : Sample) : List Move :=
  List.replicate 4 .seq ++ [.adcDone a1] ++ List.replicate 4 .seq ++ [.adcDone a2] ++ List.replicate 3 .seq

/-- The moves of one iteration of the main loop with `n` sleep iterations (95_test_vectors.md 3.4). -/
def iterationMoves (a1 a2 : Sample) (n : Nat) : List Move :=
  samplingMoves a1 a2 ++ List.replicate 21 .seq
    ++ (List.replicate n [Move.seq, Move.alarmExpire, Move.alarmDeliver]).flatten
    ++ List.replicate 3 .seq

/-- "The program's end" of the vectors, a convention and no behaviour of the hardware (45_control.md R222). -/
def AtProgramEnd (s : State) : Prop :=
  s.upc.toNat = s.text.length ∧ s.lpState = .run ∧ s.adcBusy = false ∧ s.alarmDeliverable = false

/-! ## The observer -/

/-- Bits from slot levels, pair by pair: (1, 0) is 1, (0, 1) is 0, an equal pair is no symbol (43_tx.md R176). -/
def bitsOfSlots : List Bool → Option (List Bool)
  | [] => some []
  | [_] => none
  | a :: b :: rest => if a = b then none else (bitsOfSlots rest).map (a :: ·)

/-- Bytes from bits, the first received in bit 0 (43_tx.md R176). -/
def bytesOfBits : List Bool → List Byte
  | b0 :: b1 :: b2 :: b3 :: b4 :: b5 :: b6 :: b7 :: rest =>
    BitVec.ofBoolListLE [b0, b1, b2, b3, b4, b5, b6, b7] :: bytesOfBits rest
  | _ => []

/-- The five fields of a packet (30_encoding.md R94). -/
structure Packet where
  nodeId : Byte
  seqNo : Word
  readingType : Byte
  reading : Word
  checksum : Byte
deriving DecidableEq, Repr

/-- The fields of the seven packet bytes, multi-byte fields low byte first (30_encoding.md R94). -/
def decodePacket : List Byte → Option Packet
  | [n, s0, s1, t, r0, r1, c] => some ⟨n, s1 ++ s0, t, r1 ++ r0, c⟩
  | _ => none

end Sys2Proof.Safety
end

