-- ==== Sys2Proof/Certificates/Slice0/Obligations.lean ====
section
/-! DEFINITION. The statements about WSN-CORE for the provers. An equation `exec i s = .next { s with … }` says
the operation completes, what it writes, and that it changes nothing else. -/

open Sys2Proof Sys2Proof.Machine Sys2Proof.Safety

/-! ## The sequencer, reset, encodings -/

/-- 45_control.md R221: SEQ's step, enabled only in RUN, fetches, decodes and performs. The model's choices: the
move is used up, which changes only the schedule fields (log entry 1), and a move of held SEQ does nothing else
(log entry 3). -/
def Obligations.SequencerPerformsTheDecodedWord : Prop :=
  State.reset.text = controlRom ∧ controlRom.length = Config.romLen ∧
  ∀ s : State, s.nextMove = .seq →
    { s.popMove with moves := s.moves, tick := s.tick } = s ∧
    (s.lpState ≠ .run → step s = .next s.popMove) ∧
    (s.lpState = .run →
      (s.text.length ≤ s.upc.toNat → step s = .refused .fetchBeyondText) ∧
      ∀ w, s.text[s.upc.toNat]? = some w →
        (∀ why, decode w = .error why → step s = .refused (.illegalWord why)) ∧
        (∀ i, decode w = .ok i → step s = exec i s.popMove))

/-- 70_reset_and_hazards.md R281: the reset values the spec gives, with `adc_busy` of 10_state.md R46.
`alarm_flag`, the other registers and `pkt` are left unspecified there and nothing is said of them here. -/
def Obligations.ResetLeavesTheSpecifiedValues : Prop :=
  State.reset.upc = 0#8 ∧ State.reset.lfsr = Config.lfsrSeed ∧ State.reset.seqNo = 0#16 ∧
  State.reset.sensorPwr = false ∧ State.reset.radioPwr = false ∧
  State.reset.adcEn = false ∧ State.reset.adcIe = false ∧ State.reset.adcBusy = false ∧
  State.reset.wakeEn = false ∧
  State.reset.txOe = false ∧ State.reset.txLevel = false ∧
  State.reset.lpState = .run ∧ State.reset.convDone = false ∧ State.reset.trace = []

/-- Power loss, from any state, leaves the reset state of the hardware; the text and the schedule, which are no
state of the hardware, stay. Rests on the model's named reset values (log entries 7, 8) and on log entry 14. -/
def Obligations.PowerLossLeavesTheResetState : Prop :=
  ∀ s : State, s.nextMove = .powerLoss →
    step s = .next { State.reset with text := s.text, moves := s.popMove.moves, tick := s.popMove.tick }

/-- Words of 95_test_vectors.md 2.6 and of the table, each decoded as the spec says. -/
def Obligations.ListedWordsDecodeAsTheSpecSays : Prop :=
  decode 0x0120#16 = .ok (.ctlJmp 0x20#8) ∧ decode 0x1000#16 = .ok .lfsrStep ∧
  decode 0x12FF#16 = .ok (.lfsrMix 0xFF#8) ∧ decode 0x2600#16 = .ok .adcPwrdn ∧
  decode 0x3200#16 = .ok .pktCksum ∧ decode 0x417F#16 = .ok (.txSendi 0x7F#8) ∧
  decode 0x4207#16 = .ok (.txSendp 7#8) ∧ decode 0x5300#16 = .ok .slpDisarm ∧
  decode 0x0000#16 = .error .reservedFn ∧ decode 0x1001#16 = .error .immNotZero ∧
  decode 0x2700#16 = .error .reservedFn ∧ decode 0xFFFF#16 = .error .reservedUnit

/-- Decode and encode agree on every operation, with every immediate. -/
def Obligations.EncodedOperationsDecodeBack : Prop :=
  ∀ i : Instr, decode (encode i) = .ok i

/-- A legal word has one reading: it is the encoding of what it decodes to. -/
def Obligations.LegalWordsEncodeBack : Prop :=
  ∀ (w : Word) (i : Instr), decode w = .ok i → encode i = w

/-- 30_encoding.md R82: 23 disjoint rows; a word is legal exactly when it selects a row, and it selects the row
of the operation it decodes to. -/
def Obligations.LegalWordsAreTheRowsOfTheMap : Prop :=
  opcodeTable.length = 23 ∧
  (∀ w, ∀ r ∈ opcodeTable, ∀ r' ∈ opcodeTable, r.selects w = true → r'.selects w = true → r = r') ∧
  (∀ w i, decode w = .ok i → i.row ∈ opcodeTable ∧ i.row.selects w = true) ∧
  (∀ w, ∀ r ∈ opcodeTable, r.selects w = true → ∃ i, decode w = .ok i ∧ i.row = r)

/-- The illegal words, as 30_encoding.md R83 lists them. -/
def Obligations.IllegalWordsAreTheListedOnes : Prop :=
  ∀ w : Word,
    let u := (w.extractLsb' 12 4).toNat
    let f := (w.extractLsb' 8 4).toNat
    (∃ why, decode w = .error why) ↔
      6 ≤ u ∨ (u = 0 ∧ f ≠ 1) ∨ (u = 1 ∧ 2 < f) ∨ (u = 2 ∧ 6 < f) ∨ (u = 3 ∧ 2 < f) ∨ (u = 4 ∧ 4 < f) ∨
      (u = 5 ∧ 3 < f) ∨
      (w.extractLsb' 0 8 ≠ 0#8 ∧ ¬ ((u = 0 ∧ f = 1) ∨ (u = 1 ∧ f = 2) ∨ (u = 4 ∧ f = 1) ∨ (u = 4 ∧ f = 2)))

/-- The control ROM is the expansion of MAIN_LOOP (45_control.md R224, 30_encoding.md R86). -/
def Obligations.MainLoopAssemblesToTheRom : Prop :=
  mainLoop.map encode = controlRom ∧ controlRom.length = Config.romLen

/-- 45_control.md R223: the jump writes `upc` with its target, is refused outside the text, and is the only
operation that writes `upc` with anything but `upc + 1`. -/
def Obligations.JumpGoesToItsTargetInsideTheText : Prop :=
  (∀ imm, encode (.ctlJmp imm) = 0x01#8 ++ imm) ∧
  (∀ (imm : Byte) (s : State),
    (imm.toNat < s.text.length → exec (.ctlJmp imm) s = .next { s with upc := imm }) ∧
    (s.text.length ≤ imm.toNat → exec (.ctlJmp imm) s = .refused .jumpOutsideText)) ∧
  ∀ (i : Instr) (s t : State), (∀ imm, i ≠ .ctlJmp imm) → exec i s = .next t →
    t.upc = s.upc ∨ t.upc = s.upc + 1#8

/-! ## Unit LFSR -/

/-- 40_lfsr.md R111: the guarded state shifted left, the XOR of bits 15, 13, 12, 10 entering at bit 0. -/
def Obligations.LfsrStepShiftsOnceWithFeedback : Prop :=
  encode .lfsrStep = 0x1000#16 ∧ .lfsrStep ∉ mainLoop ∧
  ∀ s : State, ∃ v : Word,
    (let g := if s.lfsr = 0#16 then Config.lfsrReseed else s.lfsr
     v.getLsbD 0 = (g.getLsbD 15 ^^ g.getLsbD 13 ^^ g.getLsbD 12 ^^ g.getLsbD 10) ∧
     ∀ j < 15, v.getLsbD (j + 1) = g.getLsbD j) ∧
    exec .lfsrStep s = .next { s with lfsr := v, upc := s.upc + 1#8 }

/-- 40_lfsr.md R113: eight steps, each with its guard; `rnd` is the low byte of the new state. -/
def Obligations.LfsrNextAdvancesEightSteps : Prop :=
  encode .lfsrNext = 0x1100#16 ∧
  ∀ s : State,
    let l := (lfsrStep Config.lfsrReseed)^[8] s.lfsr
    exec .lfsrNext s = .next { s with lfsr := l, rnd := l.extractLsb' 0 8, upc := s.upc + 1#8 }

/-- The closed form of LFSR.NEXT off zero (40_lfsr.md R114), for every reseed constant. -/
def Obligations.LfsrNextHasTheClosedForm : Prop :=
  ∀ reseed s : Word, s ≠ 0#16 →
    lfsrNext reseed s =
      s.extractLsb' 0 8 ++ ((s >>> 8) ^^^ (s >>> 6) ^^^ (s >>> 5) ^^^ (s >>> 3)).extractLsb' 0 8

/-- 40_lfsr.md R115: bits 15 and 3 are flipped exactly when bit 0 of the sample byte is set and they differ. -/
def Obligations.LfsrMixFlipsTwoDifferingBits : Prop :=
  (∀ imm, encode (.lfsrMix imm) = 0x12#8 ++ imm ∧ .lfsrMix imm ∉ mainLoop) ∧
  ∀ (imm : Byte) (s : State),
    exec (.lfsrMix imm) s = .next { s with
      lfsr := if imm.getLsbD 0 = true ∧ s.lfsr.getLsbD 15 ≠ s.lfsr.getLsbD 3 then s.lfsr ^^^ 0x8008#16 else s.lfsr
      upc := s.upc + 1#8 }

/-- `lfsr_mix` swaps bits 15 and 3 when bit 0 of the byte is set, so it keeps the number of one bits, is its own
inverse, and never makes 0 of a non-zero state (40_lfsr.md R115, R116). -/
def Obligations.LfsrMixSwapsAndKeepsOnes : Prop :=
  ∀ (s : Word) (b : Byte),
    (∀ j, (lfsrMix s b).getLsbD j =
      if b.getLsbD 0 = true ∧ j = 15 then s.getLsbD 3
      else if b.getLsbD 0 = true ∧ j = 3 then s.getLsbD 15 else s.getLsbD j) ∧
    (List.range 16).countP (lfsrMix s b).getLsbD = (List.range 16).countP s.getLsbD ∧
    lfsrMix (lfsrMix s b) b = s ∧
    (s ≠ 0#16 → lfsrMix s b ≠ 0#16)

/-- `lfsr_step` on non-zero states never gives 0 and is a bijection with the stated predecessor (40_lfsr.md
R112 a, b). -/
def Obligations.LfsrStepIsABijectionOffZero : Prop :=
  ∀ reseed : Word,
    (∀ s, s ≠ 0#16 → lfsrStep reseed s ≠ 0#16) ∧
    ∀ t : Word, t ≠ 0#16 →
      let p := t.getLsbD 0 ^^ t.getLsbD 14 ^^ t.getLsbD 13 ^^ t.getLsbD 11
      let pred : Word := BitVec.ofBool p ++ t.extractLsb' 1 15
      pred ≠ 0#16 ∧ ∀ s, s ≠ 0#16 → (lfsrStep reseed s = t ↔ s = pred)

/-- The non-zero states form one cycle of length 65535 (40_lfsr.md R112 c). -/
def Obligations.LfsrStatesFormOneCycle : Prop :=
  ∀ reseed s : Word, s ≠ 0#16 →
    lfsrSteps reseed 65535 s = s ∧ ∀ k, 0 < k → k < 65535 → lfsrSteps reseed k s ≠ s

/-- No step but a power loss takes a non-zero `lfsr` to 0 (40_lfsr.md R117, 10_state.md R22). -/
def Obligations.LfsrNeverFallsToZero : Prop :=
  ∀ s t : State, step s = .next t → s.nextMove ≠ .powerLoss → s.lfsr ≠ 0#16 → t.lfsr ≠ 0#16

/-! ## Unit ADC and its collaborator -/

/-- 41_adc.md R131. -/
def Obligations.SensorPowersUp : Prop :=
  encode .adcPwrup = 0x2000#16 ∧
  ∀ s : State, exec .adcPwrup s = .next { s with
    sensorPwr := true, trace := s.trace ++ [.sensor true], upc := s.upc + 1#8 }

/-- 41_adc.md R132. -/
def Obligations.ConverterIsConfigured : Prop :=
  encode .adcCfg = 0x2100#16 ∧
  ∀ s : State, exec .adcCfg s = .next { s with
    adcCfg := ⟨Config.adcRef, Config.adcChan, Config.adcDiv⟩
    adcEn := true
    adcIe := true
    trace := s.trace ++ [.adcCfg ⟨Config.adcRef, Config.adcChan, Config.adcDiv⟩, .adcEn true true]
    upc := s.upc + 1#8 }

/-- 41_adc.md R133: the flag is cleared, and a conversion starts only in an enabled converter. -/
def Obligations.ConversionStartsIfEnabled : Prop :=
  encode .adcStart = 0x2200#16 ∧
  ∀ s : State,
    (s.adcEn = true → exec .adcStart s = .next { s with
      convDone := false, adcBusy := true, trace := s.trace ++ [.adcStart], upc := s.upc + 1#8 }) ∧
    (s.adcEn = false → exec .adcStart s = .next { s with
      convDone := false, trace := s.trace ++ [.adcStart], upc := s.upc + 1#8 })

/-- 41_adc.md R134: completes on the flag, otherwise enters LIGHT and holds; a delivered signal wakes SEQ at the
same `upc`, where only the conversion-complete one has set the flag. -/
def Obligations.ConversionWaitRechecksTheFlag : Prop :=
  encode .adcWait = 0x2300#16 ∧
  ∀ s : State,
    (s.convDone = true → exec .adcWait s = .next { s with upc := s.upc + 1#8 }) ∧
    (s.convDone = false → ∃ t,
      exec .adcWait s = .next t ∧
      t = { s with lpState := .light, trace := s.trace ++ [.lp .light] } ∧
      t.takeConv = { t with lpState := .run, trace := t.trace ++ [.lp .run], convDone := true } ∧
      t.takeAlarm = { t with lpState := .run, trace := t.trace ++ [.lp .run], alarmFlag := false })

/-- 41_adc.md R135: the first result reaches no register. -/
def Obligations.DroppedConversionChangesNothing : Prop :=
  encode .adcDrop = 0x2400#16 ∧
  ∀ s : State, exec .adcDrop s = .next { s with upc := s.upc + 1#8 }

/-- 41_adc.md R136: the result is captured zero-extended, and its low byte is mixed into `lfsr`. -/
def Obligations.TakenConversionIsCapturedAndMixed : Prop :=
  encode .adcTake = 0x2500#16 ∧
  ∀ s : State, ∃ r : Word, r.toNat = s.adcData.toNat ∧
    exec .adcTake s = .next { s with
      reading := r, lfsr := lfsrMix s.lfsr (s.adcData.extractLsb' 0 8), upc := s.upc + 1#8 }

/-- 41_adc.md R137: converter off first, then the supply; a conversion in progress is abandoned. -/
def Obligations.ConverterThenSensorPowerDown : Prop :=
  encode .adcPwrdn = 0x2600#16 ∧
  ∀ s : State, exec .adcPwrdn s = .next { s with
    adcEn := false, adcIe := false, adcBusy := false, sensorPwr := false
    trace := s.trace ++ [.adcEn false false, .sensor false]
    upc := s.upc + 1#8 }

/-- A completion (41_adc.md R139) delivers CONV as 60_exceptions.md R246 says, if `adc_ie` = 1; with `adc_ie` = 0
it sets no flag and wakes nothing. -/
def Obligations.CompletedConversionDeliversItsSignal : Prop :=
  ∀ (s : State) (d : Sample), s.nextMove = .adcDone d →
    let u := s.popMove
    (s.adcBusy = true → s.adcIe = false → step s = .next { u with adcBusy := false, adcData := d }) ∧
    (s.adcBusy = true → s.adcIe = true → s.lpState = .run →
      step s = .next { u with adcBusy := false, adcData := d, convDone := true }) ∧
    (s.adcBusy = true → s.adcIe = true → s.lpState ≠ .run →
      step s = .next { u with
        adcBusy := false, adcData := d, convDone := true, lpState := .run, trace := s.trace ++ [.lp .run] })

/-! ## Unit PKT -/

/-- 42_packet.md R151: the counter goes up by 1 modulo 2^16 and gives no other sign of the wrap. -/
def Obligations.SequenceNumberIncrementsModulo : Prop :=
  encode .pktSeqinc = 0x3000#16 ∧
  ∀ s : State, ∃ v : Word, v.toNat = (s.seqNo.toNat + 1) % 2 ^ (8 * Config.seqBytes) ∧
    exec .pktSeqinc s = .next { s with seqNo := v, upc := s.upc + 1#8 }

/-- 42_packet.md R152: the record, byte by byte, low byte first; the checksum byte cleared; every other byte and
all other state as before. -/
def Obligations.BuildLaysOutTheRecord : Prop :=
  encode .pktBuild = 0x3100#16 ∧
  ∀ s : State, ∃ t, exec .pktBuild s = .next t ∧
    t.pktRead 0 = Config.nodeId ∧
    t.pktRead 1 = s.seqNo.extractLsb' 0 8 ∧ t.pktRead 2 = s.seqNo.extractLsb' 8 8 ∧
    t.pktRead 3 = Config.typeTemp ∧
    t.pktRead 4 = s.reading.extractLsb' 0 8 ∧ t.pktRead 5 = s.reading.extractLsb' 8 8 ∧
    t.pktRead 6 = 0x00#8 ∧
    (∀ a, Config.pktLen ≤ a → t.pktRead a = s.pktRead a) ∧
    t = { s with pkt := t.pkt, upc := s.upc + 1#8 }

/-- 42_packet.md R153: the last byte becomes the checksum of the bytes before it, in increasing offset; every
other byte and all other state as before. -/
def Obligations.ChecksumCoversTheBytesBeforeIt : Prop :=
  encode .pktCksum = 0x3200#16 ∧
  ∀ s : State, ∃ t, exec .pktCksum s = .next t ∧
    t.pktRead (Config.pktLen - 1) = Config.checksum
      [s.pktRead 0, s.pktRead 1, s.pktRead 2, s.pktRead 3, s.pktRead 4, s.pktRead 5] ∧
    (∀ a, a ≠ Config.pktLen - 1 → t.pktRead a = s.pktRead a) ∧
    t = { s with pkt := t.pkt, upc := s.upc + 1#8 }

/-- BUILD_PACKET followed by PKT.CKSUM: a matching-layout decoder recovers the four fields, and the last byte is
their checksum (42_packet.md R157, R158). -/
def Obligations.BuiltPacketDecodesToItsFields : Prop :=
  ∀ s : State, ∃ t, execAll (buildPacket ++ [.pktCksum]) s = .next t ∧
    t.seqNo = s.seqNo + 1#16 ∧
    decodePacket (t.pktBytes Config.pktLen) = some {
      nodeId := Config.nodeId
      seqNo := s.seqNo + 1#16
      readingType := Config.typeTemp
      reading := s.reading
      checksum := Config.checksum (t.pktBytes (Config.pktLen - 1)) }

/-- Every operation but PKT.BUILD and PKT.CKSUM leaves every packet byte as it was (20_memory.md R60). -/
def Obligations.OnlyBuildAndChecksumStoreBytes : Prop :=
  ∀ (i : Instr) (s t : State), i ≠ .pktBuild → i ≠ .pktCksum → exec i s = .next t →
    ∀ a, t.pktRead a = s.pktRead a

/-! ## Unit TX -/

/-- 43_tx.md R171: radio on, line driven, settle, in that order; the level latch is not written. -/
def Obligations.TransmitterPowersUp : Prop :=
  encode .txPwrup = 0x4000#16 ∧
  ∀ s : State, exec .txPwrup s = .next { s with
    radioPwr := true, txOe := true
    trace := s.trace ++ [.radio true, .oe true, .wait .settle]
    upc := s.upc + 1#8 }

/-- 43_tx.md R173, R175: the sixteen slots of the byte, bit 0 first, each bit as (b, ~b), each slot a level write
and a half-bit wait; the serializer ends at rest and the line at the complement of bit 7. -/
def Obligations.ImmediateByteIsSerialized : Prop :=
  (∀ imm, encode (.txSendi imm) = 0x41#8 ++ imm) ∧
  ∀ (imm : Byte) (s : State), exec (.txSendi imm) s = .next { s with
    txLevel := !imm.getLsbD 7
    txSr := 0#8
    txBitcnt := 0#3
    txHalf := false
    trace := s.trace ++ (List.range 8).flatMap fun k =>
      [.level (imm.getLsbD k), .wait .half, .level (!imm.getLsbD k), .wait .half]
    upc := s.upc + 1#8 }

/-- 43_tx.md R174: the same for the packet byte at the offset; an offset at or above `PKT_LEN` is refused. -/
def Obligations.PacketByteIsSerialized : Prop :=
  (∀ imm, encode (.txSendp imm) = 0x42#8 ++ imm) ∧
  ∀ (imm : Byte) (s : State),
    (Config.pktLen ≤ imm.toNat → exec (.txSendp imm) s = .refused .offsetOutsidePkt) ∧
    (imm.toNat < Config.pktLen →
      let b := s.pktRead imm.toNat
      exec (.txSendp imm) s = .next { s with
        txLevel := !b.getLsbD 7
        txSr := 0#8
        txBitcnt := 0#3
        txHalf := false
        trace := s.trace ++ (List.range 8).flatMap fun k =>
          [.level (b.getLsbD k), .wait .half, .level (!b.getLsbD k), .wait .half]
        upc := s.upc + 1#8 })

/-- 43_tx.md R177: a toggle of whatever the latch holds. -/
def Obligations.TailTogglesTheLine : Prop :=
  encode .txTail = 0x4300#16 ∧
  ∀ s : State, exec .txTail s = .next { s with
    txLevel := !s.txLevel
    trace := s.trace ++ [.level (!s.txLevel), .wait .tail]
    upc := s.upc + 1#8 }

/-- 43_tx.md R178: radio off, line released, latch low, in that order. -/
def Obligations.TransmitterPowersDown : Prop :=
  encode .txPwrdn = 0x4400#16 ∧
  ∀ s : State, exec .txPwrdn s = .next { s with
    radioPwr := false, txOe := false, txLevel := false
    trace := s.trace ++ [.radio false, .oe false, .level false]
    upc := s.upc + 1#8 }

/-- A Manchester decoder recovers every byte sequence (43_tx.md R176). -/
def Obligations.ManchesterDecodesEveryByteSequence : Prop :=
  ∀ bytes : List Byte, (bitsOfSlots (bytes.flatMap manchester)).map bytesOfBits = some bytes

/-- 30_encoding.md R93: the preamble is five immediate sends, and on the line 39 ones and then a zero. -/
def Obligations.PreambleIsOnesAndThenAZero : Prop :=
  sendPreamble = [.txSendi 0xFF#8, .txSendi 0xFF#8, .txSendi 0xFF#8, .txSendi 0xFF#8, .txSendi 0x7F#8] ∧
  Config.preamble.flatMap manchester = (List.replicate 39 [true, false]).flatten ++ [false, true]

/-- TRANSMIT from the idle condition (43_tx.md R180, 30_encoding.md R92): the checksum is stored, and the line
shows the settle segment, `frame_levels(pkt)` and the tail; the unit ends idle and nothing else changes. -/
def Obligations.TransmitSendsTheFrame : Prop :=
  ∀ s : State, s.radioPwr = false → s.txOe = false → s.txLevel = false →
    ∃ (t : State) (gained : List Event) (slots : List Bool) (tail : Bool),
      execAll transmit s = .next t ∧
      slots.length = 16 * (5 + Config.pktLen) ∧
      slots ++ [tail] = frameLevels (t.pktBytes Config.pktLen) ∧
      tail = (t.pktRead (Config.pktLen - 1)).getLsbD 7 ∧
      gained = [.radio true, .oe true, .wait .settle] ++ slotEvents slots
        ++ [.level tail, .wait .tail] ++ [.radio false, .oe false, .level false] ∧
      waveformFrom false false gained =
        ⟨true, false, .settle⟩ :: (slots.map fun v => ⟨true, v, .half⟩) ++ [⟨true, tail, .tail⟩] ∧
      lineTime (waveformFrom false false gained) = Config.tSettle + 192 * Config.tHalf + Config.tTail ∧
      t.pktRead (Config.pktLen - 1) = Config.checksum (s.pktBytes (Config.pktLen - 1)) ∧
      (∀ a, a ≠ Config.pktLen - 1 → t.pktRead a = s.pktRead a) ∧
      t = { s with
        pkt := t.pkt, trace := s.trace ++ gained, upc := s.upc + 16#8
        txSr := 0#8, txBitcnt := 0#3, txHalf := false }

/-! ## Unit SLP and its collaborator -/

/-- 44_sleep.md R201: base iterations plus the low three bits of the random byte, between 117 and 124. -/
def Obligations.SleepCountIsBasePlusJitter : Prop :=
  encode .slpCalc = 0x5000#16 ∧ Config.tTarget / Config.tAlarm = 117 ∧
  ∀ s : State, ∃ n : Byte, n.toNat = Config.tTarget / Config.tAlarm + s.rnd.toNat % 8 ∧
    117 ≤ n.toNat ∧ n.toNat ≤ 124 ∧
    exec .slpCalc s = .next { s with sleepCnt := n, upc := s.upc + 1#8 }

/-- 44_sleep.md R202: restart, forget a stale expiry, enable, in one step. -/
def Obligations.ArmingForgetsAStaleExpiry : Prop :=
  encode .slpArm = 0x5100#16 ∧
  ∀ s : State, exec .slpArm s = .next { s with
    alarmFlag := false, wakeEn := true
    trace := s.trace ++ [.almReset, .wakeEn true]
    upc := s.upc + 1#8 }

/-- 44_sleep.md R203: completes at 0, otherwise decrements, enters DEEP and holds; a delivered signal wakes SEQ at
the same `upc`; started with count n it enters DEEP exactly n times and then completes. -/
def Obligations.SleepWaitEntersDeepCountTimes : Prop :=
  encode .slpWait = 0x5200#16 ∧
  (∀ s : State,
    (s.sleepCnt = 0#8 → exec .slpWait s = .next { s with upc := s.upc + 1#8 }) ∧
    (s.sleepCnt ≠ 0#8 → ∃ t,
      exec .slpWait s = .next t ∧
      t = { s with sleepCnt := s.sleepCnt - 1#8, lpState := .deep, trace := s.trace ++ [.lp .deep] } ∧
      t.takeConv = { t with lpState := .run, trace := t.trace ++ [.lp .run], convDone := true } ∧
      t.takeAlarm = { t with lpState := .run, trace := t.trace ++ [.lp .run], alarmFlag := false })) ∧
  ∀ s : State, s.lpState = .run → s.wakeEn = true → s.alarmFlag = false → ∃ t,
    sleepCycles s.sleepCnt.toNat s = .next t ∧
    t = { s with
      sleepCnt := 0#8
      trace := s.trace ++ (List.replicate s.sleepCnt.toNat [Event.lp .deep, Event.lp .run]).flatten } ∧
    exec .slpWait t = .next { t with upc := s.upc + 1#8 }

/-- 44_sleep.md R205. -/
def Obligations.DisarmingDisablesTheWake : Prop :=
  encode .slpDisarm = 0x5300#16 ∧
  ∀ s : State, exec .slpDisarm s = .next { s with
    wakeEn := false, trace := s.trace ++ [.wakeEn false], upc := s.upc + 1#8 }

/-- An expiry sets the flag (44_sleep.md R206); the signal is taken when enabled and pending, wakes SEQ and clears
the flag (60_exceptions.md R247). -/
def Obligations.AlarmExpiryIsTakenWhenEnabled : Prop :=
  (∀ s : State, s.nextMove = .alarmExpire → step s = .next { s.popMove with alarmFlag := true }) ∧
  ∀ s : State, s.nextMove = .alarmDeliver →
    let u := s.popMove
    (s.wakeEn = true → s.alarmFlag = true → s.lpState = .run → step s = .next { u with alarmFlag := false }) ∧
    (s.wakeEn = true → s.alarmFlag = true → s.lpState ≠ .run →
      step s = .next { u with alarmFlag := false, lpState := .run, trace := s.trace ++ [.lp .run] })

/-- A move whose condition does not hold only uses itself up: the model's choice (log entry 3). -/
def Obligations.DisabledMovesChangeNothing : Prop :=
  ∀ s : State,
    ((∃ d, s.nextMove = .adcDone d) ∧ s.adcBusy = false) ∨
    (s.nextMove = .alarmDeliver ∧ (s.wakeEn = false ∨ s.alarmFlag = false)) ∨
    (s.nextMove = .seq ∧ s.lpState ≠ .run) →
    step s = .next s.popMove

/-- The two deliveries commute (60_exceptions.md R251). -/
def Obligations.SignalDeliveriesCommute : Prop :=
  ∀ (s : State) (d : Sample), (s.adcComplete d).alarmDeliver = s.alarmDeliver.adcComplete d

/-! ## The whole machine -/

/-- The moves of the two collaborators write only `conv_done`, `alarm_flag`, `adc_busy`, `adc_data`, `lp_state`
and the trace (20_memory.md R69, 60_exceptions.md R246, R247). -/
def Obligations.CollaboratorsTouchOnlyTheirState : Prop :=
  ∀ s : State, s.nextMove ≠ .seq → s.nextMove ≠ .powerLoss → ∃ t, step s = .next t ∧
    t = { s.popMove with
      convDone := t.convDone, alarmFlag := t.alarmFlag, adcBusy := t.adcBusy, adcData := t.adcData
      lpState := t.lpState, trace := t.trace }

/-- Each data register is written only by the operations of its row in 10_state.md R21. -/
def Obligations.OnlyTheirWritersChangeDataRegisters : Prop :=
  ∀ (i : Instr) (s t : State), exec i s = .next t →
    (t.lfsr ≠ s.lfsr → i = .lfsrStep ∨ i = .lfsrNext ∨ (∃ b, i = .lfsrMix b) ∨ i = .adcTake) ∧
    (t.rnd ≠ s.rnd → i = .lfsrNext) ∧
    (t.seqNo ≠ s.seqNo → i = .pktSeqinc) ∧
    (t.reading ≠ s.reading → i = .adcTake) ∧
    (t.sleepCnt ≠ s.sleepCnt → i = .slpCalc ∨ i = .slpWait)

/-- Each flag and control bit is written only by the operations of its row in 10_state.md R27, R28, R42; no
operation writes `adc_data`. -/
def Obligations.OnlyTheirWritersChangeControlBits : Prop :=
  ∀ (i : Instr) (s t : State), exec i s = .next t →
    (t.convDone ≠ s.convDone → i = .adcStart) ∧
    (t.alarmFlag ≠ s.alarmFlag → i = .slpArm) ∧
    (t.sensorPwr ≠ s.sensorPwr → i = .adcPwrup ∨ i = .adcPwrdn) ∧
    (t.radioPwr ≠ s.radioPwr → i = .txPwrup ∨ i = .txPwrdn) ∧
    (t.txOe ≠ s.txOe → i = .txPwrup ∨ i = .txPwrdn) ∧
    (t.txLevel ≠ s.txLevel → (∃ b, i = .txSendi b) ∨ (∃ b, i = .txSendp b) ∨ i = .txTail ∨ i = .txPwrdn) ∧
    (t.adcEn ≠ s.adcEn → i = .adcCfg ∨ i = .adcPwrdn) ∧
    (t.adcIe ≠ s.adcIe → i = .adcCfg ∨ i = .adcPwrdn) ∧
    (t.adcCfg ≠ s.adcCfg → i = .adcCfg) ∧
    (t.wakeEn ≠ s.wakeEn → i = .slpArm ∨ i = .slpDisarm) ∧
    (t.lpState ≠ s.lpState → (i = .adcWait ∧ t.lpState = .light) ∨ (i = .slpWait ∧ t.lpState = .deep)) ∧
    (t.txSr ≠ s.txSr ∨ t.txBitcnt ≠ s.txBitcnt ∨ t.txHalf ≠ s.txHalf →
      (∃ b, i = .txSendi b) ∨ (∃ b, i = .txSendp b)) ∧
    (t.adcBusy ≠ s.adcBusy → i = .adcStart ∨ i = .adcPwrdn) ∧
    t.adcData = s.adcData

/-- Every operation but CTL.JMP ends with `upc + 1` when it completes and leaves `upc` while it holds, and only
the two waits hold (10_state.md R26). -/
def Obligations.OperationsAdvanceOrHold : Prop :=
  ∀ (i : Instr) (s t : State), exec i s = .next t →
    (∃ b, i = .ctlJmp b ∧ t.upc = b) ∨
    t.upc = s.upc + 1#8 ∨
    (t.upc = s.upc ∧ i = .adcWait ∧ t.lpState = .light) ∨
    (t.upc = s.upc ∧ i = .slpWait ∧ t.lpState = .deep)

/-- No step writes the program text (20_memory.md R72). -/
def Obligations.ProgramTextNeverChanges : Prop :=
  ∀ s t : State, step s = .next t → t.text = s.text

/-- No step but a power loss takes back an event (10_state.md R44). -/
def Obligations.TraceOnlyGrows : Prop :=
  ∀ s t : State, step s = .next t → s.nextMove ≠ .powerLoss → s.trace <+: t.trace

/-- LIGHT is entered only by ADC.WAIT, DEEP only by SLP.WAIT, and a low-power state is left only by the delivery
of an enabled signal or by power loss (60_exceptions.md R260). -/
def Obligations.OnlyWaitsSuspendAndOnlySignalsWake : Prop :=
  ∀ s t : State, step s = .next t →
    (s.lpState = .run → t.lpState ≠ .run → s.nextMove = .seq ∧ ∃ w, s.fetch = some w ∧
      ((decode w = .ok .adcWait ∧ t.lpState = .light) ∨ (decode w = .ok .slpWait ∧ t.lpState = .deep))) ∧
    (s.lpState ≠ .run → t.lpState ≠ s.lpState → t.lpState = .run ∧
      (s.nextMove = .powerLoss ∨
       ((∃ d, s.nextMove = .adcDone d) ∧ s.adcBusy = true ∧ s.adcIe = true) ∨
       (s.nextMove = .alarmDeliver ∧ s.wakeEn = true ∧ s.alarmFlag = true)))

/-- The hang (60_exceptions.md R242): held with nothing to deliver a signal, every move but a power loss leaves
SEQ held, the outputs and the trace as they are. -/
def Obligations.TheHangPersists : Prop :=
  ∀ s : State, Hung s → s.nextMove ≠ .powerLoss → ∃ t, step s = .next t ∧ Hung t ∧
    t.upc = s.upc ∧ t.lpState = s.lpState ∧ t.ports = s.ports ∧ t.trace = s.trace

/-- Every step keeps the data invariant. For a power loss the packet, `reading` and serializer clauses rest on the
model's named reset values and on what it resets (log entries 7, 8 and 14), not on the spec. -/
def Obligations.EveryStepKeepsTheDataInvariant : Prop :=
  ∀ s t : State, DataInv s → step s = .next t → DataInv t

/-- The data invariant holds at reset. The packet, `reading` and serializer clauses rest on the model's named
reset values (log entries 7 and 8). -/
def Obligations.ResetMeetsTheDataInvariant : Prop :=
  DataInv State.reset

/-- The control ROM never refuses, and every step keeps what it arranges: each supply, enable and drive bit is on
exactly in its window of `upc`, and SEQ is held only at the waits (45_control.md R222, R225, R228). -/
def Obligations.ControlRomNeverRefuses : Prop :=
  ∀ s : State, RomInv s → ∃ t, step s = .next t ∧ RomInv t

/-- What the control ROM arranges holds at reset. -/
def Obligations.ResetMeetsTheRomInvariant : Prop :=
  RomInv State.reset

/-- READ_TEMPERATURE in the control ROM, each completion coming after LIGHT was entered (41_adc.md R140): the
second result is captured and mixed, the first reaches nothing, everything is off again. -/
def Obligations.SamplingKeepsOnlyTheSecondConversion : Prop :=
  ∀ (s : State) (a1 a2 : Sample), LoopStart s →
    core.run (samplingMoves a1 a2).length (withMoves (samplingMoves a1 a2) s) = .next { s with
      upc := 0x09#8
      reading := a2.setWidth 16
      lfsr := lfsrMix s.lfsr (a2.extractLsb' 0 8)
      convDone := true
      adcData := a2
      adcCfg := ⟨Config.adcRef, Config.adcChan, Config.adcDiv⟩
      trace := s.trace ++
        [.sensor true, .adcCfg ⟨Config.adcRef, Config.adcChan, Config.adcDiv⟩, .adcEn true true,
          .adcStart, .lp .light, .lp .run, .adcStart, .lp .light, .lp .run,
          .adcEn false false, .sensor false] }

/-- One iteration of the main loop (45_control.md R226): from one loop boundary to the next, with the state, the
packet and the line waveform the spec gives. The converter delivers `a1` then `a2`, and no value stated
here depends on `a1`; the alarm expires after each DEEP entry. -/
def Obligations.OneIterationOfTheMainLoop : Prop :=
  ∀ (s : State) (a1 a2 : Sample), LoopStart s →
    let l1 := lfsrMix s.lfsr (a2.extractLsb' 0 8)
    let l2 := lfsrNext Config.lfsrReseed l1
    let n := 117 + l2.toNat % 8
    let moves := iterationMoves a1 a2 n
    ∃ (t : State) (gained : List Event) (slots : List Bool) (tail : Bool),
      core.run moves.length (withMoves moves s) = .next t ∧
      LoopStart t ∧
      t.reading = a2.setWidth 16 ∧ t.lfsr = l2 ∧ t.rnd = l2.extractLsb' 0 8 ∧
      t.seqNo = s.seqNo + 1#16 ∧ t.sleepCnt = 0#8 ∧ t.convDone = true ∧
      t.moves = s.moves ∧ t.tick = s.tick ∧
      decodePacket (t.pktBytes Config.pktLen) = some {
        nodeId := Config.nodeId
        seqNo := s.seqNo + 1#16
        readingType := Config.typeTemp
        reading := a2.setWidth 16
        checksum := Config.checksum (t.pktBytes (Config.pktLen - 1)) } ∧
      t.trace = s.trace ++ gained ∧
      gained.countP (· == .lp .deep) = n ∧
      slots ++ [tail] = frameLevels (t.pktBytes Config.pktLen) ∧
      waveformFrom false false gained =
        ⟨true, false, .settle⟩ :: (slots.map fun v => ⟨true, v, .half⟩) ++ [⟨true, tail, .tail⟩]
end

