-- ==== Sys2Proof/Laws/Decode.lean ====
section
/-! SUPPORT. Packing and reading the fields of a word are inverse (30_encoding.md R80). -/

namespace Sys2Proof

theorem packWord_toNat (u f : BitVec 4) (b : Byte) :
    (packWord u f b).toNat = u.toNat * 4096 + f.toNat * 256 + b.toNat := by
  have h1 : (u ++ f : BitVec 8).toNat = u.toNat <<< 4 ||| f.toNat := BitVec.toNat_append u f
  have h2 : (packWord u f b).toNat = (u ++ f : BitVec 8).toNat <<< 8 ||| b.toNat :=
    BitVec.toNat_append (u ++ f : BitVec 8) b
  have hf : f.toNat < 2 ^ 4 := f.isLt
  have hb : b.toNat < 2 ^ 8 := b.isLt
  rw [h2, h1, ← Nat.shiftLeft_add_eq_or_of_lt hf, ← Nat.shiftLeft_add_eq_or_of_lt hb]
  simp only [Nat.shiftLeft_eq]
  omega

theorem wordUnit_packWord (u f : BitVec 4) (b : Byte) : wordUnit (packWord u f b) = u := by
  apply BitVec.eq_of_toNat_eq
  have hu := u.isLt; have hf := f.isLt; have hb := b.isLt
  simp only [wordUnit, BitVec.extractLsb'_toNat, packWord_toNat, Nat.shiftRight_eq_div_pow]
  omega

theorem wordFn_packWord (u f : BitVec 4) (b : Byte) : wordFn (packWord u f b) = f := by
  apply BitVec.eq_of_toNat_eq
  have hu := u.isLt; have hf := f.isLt; have hb := b.isLt
  simp only [wordFn, BitVec.extractLsb'_toNat, packWord_toNat, Nat.shiftRight_eq_div_pow]
  omega

theorem wordImm_packWord (u f : BitVec 4) (b : Byte) : wordImm (packWord u f b) = b := by
  apply BitVec.eq_of_toNat_eq
  have hu := u.isLt; have hf := f.isLt; have hb := b.isLt
  simp only [wordImm, BitVec.extractLsb'_toNat, packWord_toNat, Nat.shiftRight_eq_div_pow]
  omega

/-- A word is its fields. -/
theorem packWord_fields (w : Word) : packWord (wordUnit w) (wordFn w) (wordImm w) = w := by
  apply BitVec.eq_of_toNat_eq
  have hw := w.isLt
  simp only [packWord_toNat, wordUnit, wordFn, wordImm, BitVec.extractLsb'_toNat, Nat.shiftRight_eq_div_pow]
  omega

/-- The decoder reads a packed word by its fields. -/
theorem decode_packWord (u f : BitVec 4) (b : Byte) :
    decode (packWord u f b) = decodeFields u.toNat f.toNat b := by
  simp only [decode, wordUnit_packWord, wordFn_packWord, wordImm_packWord]

/-- An operation without an immediate decodes exactly when its `imm` field is 0x00 (30_encoding.md R80). -/
theorem noImm_eq_ok {i j : Instr} {b : Byte} : noImm i b = .ok j ↔ b = 0#8 ∧ i = j := by
  unfold noImm
  split <;> simp [*]

end Sys2Proof
end

