-- ==== Sys2Proof/Laws/Lfsr.lean ====
section
/-! SUPPORT. The LFSR functions bit by bit (40_lfsr.md R111, R115). -/

namespace Sys2Proof.Machine

/-- The reseed constant is non-zero, whatever it is (40_lfsr.md R117). -/
theorem lfsrReseed_ne_zero : Config.lfsrReseed ≠ 0#16 := by
  intro h
  have := congrArg BitVec.toNat h
  have hlt := Config.lfsrReseedPred.isLt
  simp only [Config.lfsrReseed, BitVec.toNat_ofNat] at this
  omega

/-- Bit `j` of `lfsr_step`: the feedback bit at 0, the guarded state's bit `j - 1` above. -/
theorem lfsrStep_getLsbD (r s : Word) (j : Nat) :
    (lfsrStep r s).getLsbD j =
      if j = 0 then lfsrFeedback (lfsrGuard r s) else decide (j < 16) && (lfsrGuard r s).getLsbD (j - 1) := by
  refine Eq.trans (BitVec.getLsbD_append (x := (lfsrGuard r s).extractLsb' 0 15)) ?_
  rcases j with _ | j
  · simp
  · have hj : decide (j + 1 < 16) = decide (j < 15) := decide_eq_decide.mpr (by omega)
    simp [BitVec.getLsbD_extractLsb', hj]

/-- The guard does nothing off zero. -/
theorem lfsrGuard_of_ne_zero {r s : Word} (h : s ≠ 0#16) : lfsrGuard r s = s := if_neg h

/-- Steps add up. -/
theorem lfsrSteps_add (r : Word) (m n : Nat) (s : Word) :
    lfsrSteps r (m + n) s = lfsrSteps r n (lfsrSteps r m s) := by
  induction m generalizing s with
  | zero => rw [Nat.zero_add]; rfl
  | succ m ih => rw [Nat.succ_add]; exact ih _

/-- `n` steps are the `n`-fold iterate. -/
theorem lfsrSteps_eq_iterate (r : Word) (n : Nat) (s : Word) : lfsrSteps r n s = (lfsrStep r)^[n] s := by
  induction n generalizing s with
  | zero => rfl
  | succ n ih => exact ih _

/-- Bit `j` of `lfsr_mix`, before the two bits are read as a swap. -/
theorem lfsrMix_getLsbD (s : Word) (b : Byte) (j : Nat) :
    (lfsrMix s b).getLsbD j =
      (s.getLsbD j ^^
        (b.getLsbD 0 && (s.getLsbD 15 != s.getLsbD 3) && (Config.lfsrMixMask).getLsbD j)) := by
  unfold lfsrMix
  split
  · rename_i h; rw [h, Bool.true_and, BitVec.getLsbD_xor]
  · rename_i h; rw [Bool.not_eq_true] at h; rw [h, Bool.false_and, Bool.xor_false]

end Sys2Proof.Machine
end

