-- ==== Sys2Proof/Laws/Memory.lean ====
section
/-! SUPPORT. The laws of memory cells: reading after writing, and the canonical form every operation keeps. -/

namespace Sys2Proof.Machine

theorem Memory.read_erase (m : List Host.Cell) (a b : Nat) :
    Memory.read (Memory.erase m a) b = if b = a then Memory.unlisted else Memory.read m b := by
  induction m with
  | nil => simp [Memory.erase, Memory.read]
  | cons c rest ih =>
    obtain ⟨k, v⟩ := c
    simp only [Memory.erase, Memory.read]
    split
    · subst_vars; rw [ih]; split
      · rfl
      · rw [if_neg (by omega)]
    · simp only [Memory.read, ih]; split
      · subst_vars; rw [if_neg (by assumption)]
      · rfl

theorem Memory.read_insert (m : List Host.Cell) (a b : Nat) (v : Byte) (h : ∀ c ∈ m, c.1 ≠ a) :
    Memory.read (Memory.insert m a v) b = if b = a then v else Memory.read m b := by
  induction m with
  | nil => simp only [Memory.insert, Memory.read, eq_comm]
  | cons c rest ih =>
    obtain ⟨k, w⟩ := c
    have hk : k ≠ a := h (k, w) (by simp)
    have ih := ih fun c hc => h c (by simp [hc])
    simp only [Memory.insert]
    split
    · simp only [Memory.read, eq_comm]
    · simp only [Memory.read, ih]; split
      · subst_vars; rw [if_neg hk]
      · rfl

theorem Memory.erase_ne (m : List Host.Cell) (a : Nat) : ∀ c ∈ Memory.erase m a, c.1 ≠ a := by
  induction m with
  | nil => simp [Memory.erase]
  | cons c rest ih =>
    obtain ⟨k, v⟩ := c
    simp only [Memory.erase]
    split
    · exact ih
    · intro c hc
      rcases List.mem_cons.mp hc with rfl | hc
      · assumption
      · exact ih c hc

/-- Reading after a write: the value written at its address, what was there elsewhere. -/
theorem Memory.read_write (m : List Host.Cell) (a b : Nat) (v : Byte) :
    Memory.read (Memory.write m a v) b = if b = a then v else Memory.read m b := by
  unfold Memory.write
  split
  · subst_vars; exact Memory.read_erase m a b
  · rw [Memory.read_insert _ _ _ _ (Memory.erase_ne m a), Memory.read_erase]
    split <;> rfl

theorem Memory.wfFrom_mono (m : List Host.Cell) {lo lo' : Nat} (h : lo' ≤ lo)
    (hm : Memory.wfFrom lo m = true) : Memory.wfFrom lo' m = true := by
  cases m with
  | nil => rfl
  | cons c rest =>
    simp only [Memory.wfFrom, Bool.and_eq_true, decide_eq_true_eq] at hm ⊢
    exact ⟨⟨by omega, hm.1.2⟩, hm.2⟩

theorem Memory.wfFrom_erase (m : List Host.Cell) (lo a : Nat) (hm : Memory.wfFrom lo m = true) :
    Memory.wfFrom lo (Memory.erase m a) = true := by
  induction m generalizing lo with
  | nil => rfl
  | cons c rest ih =>
    simp only [Memory.wfFrom, Bool.and_eq_true, decide_eq_true_eq] at hm
    simp only [Memory.erase]
    split
    · exact ih lo (Memory.wfFrom_mono rest (by omega) hm.2)
    · simp only [Memory.wfFrom, Bool.and_eq_true, decide_eq_true_eq]
      exact ⟨hm.1, ih _ hm.2⟩

theorem Memory.wfFrom_insert (m : List Host.Cell) (lo a : Nat) (v : Byte) (ha : lo ≤ a)
    (hv : v ≠ Memory.unlisted) (hne : ∀ c ∈ m, c.1 ≠ a) (hm : Memory.wfFrom lo m = true) :
    Memory.wfFrom lo (Memory.insert m a v) = true := by
  induction m generalizing lo with
  | nil => simp [Memory.insert, Memory.wfFrom, ha, hv]
  | cons c rest ih =>
    obtain ⟨k, w⟩ := c
    have hk : k ≠ a := hne (k, w) (by simp)
    simp only [Memory.wfFrom, Bool.and_eq_true, decide_eq_true_eq] at hm
    simp only [Memory.insert]
    split
    · simp only [Memory.wfFrom, Bool.and_eq_true, decide_eq_true_eq]
      exact ⟨⟨ha, hv⟩, ⟨⟨by omega, hm.1.2⟩, hm.2⟩⟩
    · simp only [Memory.wfFrom, Bool.and_eq_true, decide_eq_true_eq]
      exact ⟨hm.1, ih _ (by omega) (fun c hc => hne c (by simp [hc])) hm.2⟩

/-- A write keeps the canonical form. -/
theorem Memory.wf_write (m : List Host.Cell) (a : Nat) (v : Byte) (hm : Memory.wf m = true) :
    Memory.wf (Memory.write m a v) = true := by
  unfold Memory.write
  split
  · exact Memory.wfFrom_erase m 0 a hm
  · exact Memory.wfFrom_insert _ 0 a v (by omega) (by assumption) (Memory.erase_ne m a)
      (Memory.wfFrom_erase m 0 a hm)

theorem Memory.inPkt_erase (m : List Host.Cell) (a : Nat) (hm : Memory.inPkt m = true) :
    Memory.inPkt (Memory.erase m a) = true := by
  induction m with
  | nil => rfl
  | cons c rest ih =>
    obtain ⟨k, v⟩ := c
    simp only [Memory.inPkt, List.all_cons, Bool.and_eq_true] at hm ih
    simp only [Memory.erase]
    split
    · exact ih hm.2
    · simp only [Memory.inPkt, List.all_cons, Bool.and_eq_true]
      exact ⟨hm.1, ih hm.2⟩

theorem Memory.inPkt_insert (m : List Host.Cell) (a : Nat) (v : Byte) (ha : a < Config.pktLen)
    (hm : Memory.inPkt m = true) : Memory.inPkt (Memory.insert m a v) = true := by
  induction m with
  | nil => simp [Memory.insert, Memory.inPkt, ha]
  | cons c rest ih =>
    obtain ⟨k, w⟩ := c
    simp only [Memory.insert]
    split
    · simp only [Memory.inPkt, List.all_cons, Bool.and_eq_true, decide_eq_true_eq] at hm ⊢
      exact ⟨ha, hm⟩
    · simp only [Memory.inPkt, List.all_cons, Bool.and_eq_true] at hm ih ⊢
      exact ⟨hm.1, ih hm.2⟩

/-- A write inside `pkt` lists no offset outside it. -/
theorem Memory.inPkt_write (m : List Host.Cell) (a : Nat) (v : Byte) (ha : a < Config.pktLen)
    (hm : Memory.inPkt m = true) : Memory.inPkt (Memory.write m a v) = true := by
  unfold Memory.write
  split
  · exact Memory.inPkt_erase m a hm
  · exact Memory.inPkt_insert _ a v ha (Memory.inPkt_erase m a hm)

/-- A field write keeps the canonical form. -/
theorem Memory.wf_writeLE (m : List Host.Cell) (a n v : Nat) (hm : Memory.wf m = true) :
    Memory.wf (Memory.writeLE m a n v) = true := by
  induction n generalizing m a v with
  | zero => exact hm
  | succ n ih => exact ih _ _ _ (Memory.wf_write m a _ hm)

/-- A field write inside `pkt` lists no offset outside it. -/
theorem Memory.inPkt_writeLE (m : List Host.Cell) (a n v : Nat) (ha : a + n ≤ Config.pktLen)
    (hm : Memory.inPkt m = true) : Memory.inPkt (Memory.writeLE m a n v) = true := by
  induction n generalizing m a v with
  | zero => exact hm
  | succ n ih => exact ih _ _ _ (by omega) (Memory.inPkt_write m a _ (by omega) hm)

/-- Reading a byte after a field write: byte `k` of the value at offset `a + k` (20_memory.md R63), what was
there elsewhere. -/
theorem Memory.read_writeLE (m : List Host.Cell) (a n v b : Nat) :
    Memory.read (Memory.writeLE m a n v) b =
      if a ≤ b ∧ b < a + n then BitVec.ofNat 8 (v / 256 ^ (b - a)) else Memory.read m b := by
  induction n generalizing m a v with
  | zero => rw [if_neg (by omega)]; rfl
  | succ n ih =>
    rw [Memory.writeLE, ih, Memory.read_write]
    by_cases hb : b = a
    · subst hb
      rw [if_neg (by omega), if_pos rfl, if_pos (by omega)]
      simp
    · by_cases hin : a + 1 ≤ b ∧ b < a + 1 + n
      · rw [if_pos hin, if_pos (by omega)]
        obtain ⟨d, rfl⟩ : ∃ d, b = a + 1 + d := ⟨b - (a + 1), by omega⟩
        rw [show a + 1 + d - (a + 1) = d by omega, show a + 1 + d - a = d + 1 by omega,
          Nat.div_div_eq_div_mul, ← Nat.pow_succ']
      · rw [if_neg hin, if_neg hb, if_neg (by omega)]

/-- The bytes PKT.BUILD lays, at their offsets (42_packet.md R152). -/
theorem State.layPacket_read (s : State) (nodeId typeTag : Byte) (a : Nat) :
    (s.layPacket nodeId typeTag).pktRead a =
      if a = 0 then nodeId
      else if a = 1 then BitVec.ofNat 8 s.seqNo.toNat
      else if a = 2 then BitVec.ofNat 8 (s.seqNo.toNat / 256)
      else if a = 3 then typeTag
      else if a = 4 then BitVec.ofNat 8 s.reading.toNat
      else if a = 5 then BitVec.ofNat 8 (s.reading.toNat / 256)
      else if a = 6 then 0x00#8
      else s.pktRead a := by
  unfold State.layPacket State.pktRead State.pktWrite
  simp only [Memory.read_writeLE, offNodeId, offSeqNo, offReadingType, offReading, offChecksum,
    Config.seqBytes, Config.readingBytes, Config.pktLen]
  rcases Nat.lt_or_ge a 7 with h | h
  · have : a = 0 ∨ a = 1 ∨ a = 2 ∨ a = 3 ∨ a = 4 ∨ a = 5 ∨ a = 6 := by omega
    rcases this with rfl | rfl | rfl | rfl | rfl | rfl | rfl <;> simp
  · rw [if_neg (by omega), if_neg (by omega), if_neg (by omega), if_neg (by omega), if_neg (by omega)]
    simp only [show a ≠ 0 by omega, show a ≠ 1 by omega, show a ≠ 2 by omega, show a ≠ 3 by omega,
      show a ≠ 4 by omega, show a ≠ 5 by omega, show a ≠ 6 by omega, if_false]

/-- The bytes after PKT.CKSUM: the last one is the checksum of the others, which stay (42_packet.md R153). -/
theorem State.storeChecksum_read (s : State) (f : List Byte → Byte) (a : Nat) :
    (s.storeChecksum f).pktRead a = if a = 6 then f (s.pktBytes 6) else s.pktRead a := by
  unfold State.storeChecksum State.pktRead State.pktWrite
  simp only [Memory.read_writeLE, offChecksum, Config.seqBytes, Config.readingBytes, Config.pktLen]
  by_cases h : a = 6
  · subst h; simp
  · rw [if_neg (by omega), if_neg h]

end Sys2Proof.Machine
end

