-- ==== Sys2Proof/Laws/Operands.lean ====
section
/-! SUPPORT. What the operand forms answer (30_encoding.md R81, R83). -/

namespace Sys2Proof.Machine

/-- A jump target is the immediate itself, below the text's length. -/
theorem jumpTarget_eq_some {n : Nat} {imm t : Byte} : jumpTarget n imm = some t ↔ imm.toNat < n ∧ imm = t := by
  unfold jumpTarget
  split <;> simp [*]

/-- A packet offset is the immediate itself, below `PKT_LEN`. -/
theorem pktOffset_eq_some {imm : Byte} {a : Nat} :
    pktOffset imm = some a ↔ imm.toNat < Config.pktLen ∧ imm.toNat = a := by
  unfold pktOffset
  split <;> simp [*]

/-- Zero extension keeps the value. -/
theorem sampleReading_toNat (d : Sample) : (sampleReading d).toNat = d.toNat := by
  have := d.isLt
  simp only [sampleReading, BitVec.toNat_setWidth]
  omega

/-- The jitter is the random byte's low three bits. -/
theorem jitter_toNat (r : Byte) : (jitter r).toNat = r.toNat % 8 := by
  revert r; decide

end Sys2Proof.Machine
end

