-- ==== Sys2Proof/WellFormed.lean ====
section
/-! DEFINITION. Which operations have a legal operand (30_encoding.md R83). Every operation has a legal word;
"a legal word may still have an illegal operand value". -/

namespace Sys2Proof

/-- The operand of `i` is legal in a program text of `textLen` words: a jump lands inside the text
(45_control.md R223), a packet offset lies inside `pkt` (43_tx.md R174). -/
def Instr.wellFormed (textLen : Nat) : Instr → Bool
  | .ctlJmp imm => decide (imm.toNat < textLen)
  | .txSendp imm => decide (imm.toNat < Config.pktLen)
  | .lfsrStep => true
  | .lfsrNext => true
  | .lfsrMix _ => true
  | .adcPwrup => true
  | .adcCfg => true
  | .adcStart => true
  | .adcWait => true
  | .adcDrop => true
  | .adcTake => true
  | .adcPwrdn => true
  | .pktSeqinc => true
  | .pktBuild => true
  | .pktCksum => true
  | .txPwrup => true
  | .txSendi _ => true
  | .txTail => true
  | .txPwrdn => true
  | .slpCalc => true
  | .slpArm => true
  | .slpWait => true
  | .slpDisarm => true

end Sys2Proof
end

