-- ==== Sys2Proof/Laws/PerInstr.lean ====
section
/-! SUPPORT. The statements made per instruction. Family RowMatch: an operation's word selects the operation's
row of the map 30_encoding.md R82. -/

namespace Sys2Proof.Laws.RowMatch

/-- The word of `i` selects its row: `w & mask == match`. -/
def Statement (i : Instr) : Prop := i.row.selects (encode i) = true

theorem ctlJmp (imm : Byte) : Statement (.ctlJmp imm) := by revert imm; unfold Statement; decide
theorem lfsrStep : Statement .lfsrStep := by unfold Statement; decide
theorem lfsrNext : Statement .lfsrNext := by unfold Statement; decide
theorem lfsrMix (imm : Byte) : Statement (.lfsrMix imm) := by revert imm; unfold Statement; decide
theorem adcPwrup : Statement .adcPwrup := by unfold Statement; decide
theorem adcCfg : Statement .adcCfg := by unfold Statement; decide
theorem adcStart : Statement .adcStart := by unfold Statement; decide
theorem adcWait : Statement .adcWait := by unfold Statement; decide
theorem adcDrop : Statement .adcDrop := by unfold Statement; decide
theorem adcTake : Statement .adcTake := by unfold Statement; decide
theorem adcPwrdn : Statement .adcPwrdn := by unfold Statement; decide
theorem pktSeqinc : Statement .pktSeqinc := by unfold Statement; decide
theorem pktBuild : Statement .pktBuild := by unfold Statement; decide
theorem pktCksum : Statement .pktCksum := by unfold Statement; decide
theorem txPwrup : Statement .txPwrup := by unfold Statement; decide
theorem txSendi (imm : Byte) : Statement (.txSendi imm) := by revert imm; unfold Statement; decide
theorem txSendp (imm : Byte) : Statement (.txSendp imm) := by revert imm; unfold Statement; decide
theorem txTail : Statement .txTail := by unfold Statement; decide
theorem txPwrdn : Statement .txPwrdn := by unfold Statement; decide
theorem slpCalc : Statement .slpCalc := by unfold Statement; decide
theorem slpArm : Statement .slpArm := by unfold Statement; decide
theorem slpWait : Statement .slpWait := by unfold Statement; decide
theorem slpDisarm : Statement .slpDisarm := by unfold Statement; decide

end Sys2Proof.Laws.RowMatch
end

