-- ==== Sys2Proof/Laws/State.lean ====
section
/-! SUPPORT. One lemma per field per named update of the state, and the one lemma that says everything an update
of several cases can do. -/

namespace Sys2Proof.Machine

/-! `emit` -/
@[simp] theorem State.emit_text (s : State) (es : List Event) : (s.emit es).text = s.text := rfl
@[simp] theorem State.emit_upc (s : State) (es : List Event) : (s.emit es).upc = s.upc := rfl
@[simp] theorem State.emit_lfsr (s : State) (es : List Event) : (s.emit es).lfsr = s.lfsr := rfl
@[simp] theorem State.emit_rnd (s : State) (es : List Event) : (s.emit es).rnd = s.rnd := rfl
@[simp] theorem State.emit_seqNo (s : State) (es : List Event) : (s.emit es).seqNo = s.seqNo := rfl
@[simp] theorem State.emit_reading (s : State) (es : List Event) : (s.emit es).reading = s.reading := rfl
@[simp] theorem State.emit_sleepCnt (s : State) (es : List Event) : (s.emit es).sleepCnt = s.sleepCnt := rfl
@[simp] theorem State.emit_pkt (s : State) (es : List Event) : (s.emit es).pkt = s.pkt := rfl
@[simp] theorem State.emit_convDone (s : State) (es : List Event) : (s.emit es).convDone = s.convDone := rfl
@[simp] theorem State.emit_alarmFlag (s : State) (es : List Event) : (s.emit es).alarmFlag = s.alarmFlag := rfl
@[simp] theorem State.emit_sensorPwr (s : State) (es : List Event) : (s.emit es).sensorPwr = s.sensorPwr := rfl
@[simp] theorem State.emit_radioPwr (s : State) (es : List Event) : (s.emit es).radioPwr = s.radioPwr := rfl
@[simp] theorem State.emit_txOe (s : State) (es : List Event) : (s.emit es).txOe = s.txOe := rfl
@[simp] theorem State.emit_txLevel (s : State) (es : List Event) : (s.emit es).txLevel = s.txLevel := rfl
@[simp] theorem State.emit_adcEn (s : State) (es : List Event) : (s.emit es).adcEn = s.adcEn := rfl
@[simp] theorem State.emit_adcIe (s : State) (es : List Event) : (s.emit es).adcIe = s.adcIe := rfl
@[simp] theorem State.emit_adcCfg (s : State) (es : List Event) : (s.emit es).adcCfg = s.adcCfg := rfl
@[simp] theorem State.emit_wakeEn (s : State) (es : List Event) : (s.emit es).wakeEn = s.wakeEn := rfl
@[simp] theorem State.emit_lpState (s : State) (es : List Event) : (s.emit es).lpState = s.lpState := rfl
@[simp] theorem State.emit_txSr (s : State) (es : List Event) : (s.emit es).txSr = s.txSr := rfl
@[simp] theorem State.emit_txBitcnt (s : State) (es : List Event) : (s.emit es).txBitcnt = s.txBitcnt := rfl
@[simp] theorem State.emit_txHalf (s : State) (es : List Event) : (s.emit es).txHalf = s.txHalf := rfl
@[simp] theorem State.emit_adcBusy (s : State) (es : List Event) : (s.emit es).adcBusy = s.adcBusy := rfl
@[simp] theorem State.emit_adcData (s : State) (es : List Event) : (s.emit es).adcData = s.adcData := rfl
@[simp] theorem State.emit_trace (s : State) (es : List Event) : (s.emit es).trace = s.trace ++ es := rfl
@[simp] theorem State.emit_moves (s : State) (es : List Event) : (s.emit es).moves = s.moves := rfl
@[simp] theorem State.emit_tick (s : State) (es : List Event) : (s.emit es).tick = s.tick := rfl

/-! `advance` -/
@[simp] theorem State.advance_text (s : State) : (s.advance).text = s.text := rfl
@[simp] theorem State.advance_upc (s : State) : (s.advance).upc = s.upc + 1#8 := rfl
@[simp] theorem State.advance_lfsr (s : State) : (s.advance).lfsr = s.lfsr := rfl
@[simp] theorem State.advance_rnd (s : State) : (s.advance).rnd = s.rnd := rfl
@[simp] theorem State.advance_seqNo (s : State) : (s.advance).seqNo = s.seqNo := rfl
@[simp] theorem State.advance_reading (s : State) : (s.advance).reading = s.reading := rfl
@[simp] theorem State.advance_sleepCnt (s : State) : (s.advance).sleepCnt = s.sleepCnt := rfl
@[simp] theorem State.advance_pkt (s : State) : (s.advance).pkt = s.pkt := rfl
@[simp] theorem State.advance_convDone (s : State) : (s.advance).convDone = s.convDone := rfl
@[simp] theorem State.advance_alarmFlag (s : State) : (s.advance).alarmFlag = s.alarmFlag := rfl
@[simp] theorem State.advance_sensorPwr (s : State) : (s.advance).sensorPwr = s.sensorPwr := rfl
@[simp] theorem State.advance_radioPwr (s : State) : (s.advance).radioPwr = s.radioPwr := rfl
@[simp] theorem State.advance_txOe (s : State) : (s.advance).txOe = s.txOe := rfl
@[simp] theorem State.advance_txLevel (s : State) : (s.advance).txLevel = s.txLevel := rfl
@[simp] theorem State.advance_adcEn (s : State) : (s.advance).adcEn = s.adcEn := rfl
@[simp] theorem State.advance_adcIe (s : State) : (s.advance).adcIe = s.adcIe := rfl
@[simp] theorem State.advance_adcCfg (s : State) : (s.advance).adcCfg = s.adcCfg := rfl
@[simp] theorem State.advance_wakeEn (s : State) : (s.advance).wakeEn = s.wakeEn := rfl
@[simp] theorem State.advance_lpState (s : State) : (s.advance).lpState = s.lpState := rfl
@[simp] theorem State.advance_txSr (s : State) : (s.advance).txSr = s.txSr := rfl
@[simp] theorem State.advance_txBitcnt (s : State) : (s.advance).txBitcnt = s.txBitcnt := rfl
@[simp] theorem State.advance_txHalf (s : State) : (s.advance).txHalf = s.txHalf := rfl
@[simp] theorem State.advance_adcBusy (s : State) : (s.advance).adcBusy = s.adcBusy := rfl
@[simp] theorem State.advance_adcData (s : State) : (s.advance).adcData = s.adcData := rfl
@[simp] theorem State.advance_trace (s : State) : (s.advance).trace = s.trace := rfl
@[simp] theorem State.advance_moves (s : State) : (s.advance).moves = s.moves := rfl
@[simp] theorem State.advance_tick (s : State) : (s.advance).tick = s.tick := rfl

/-! `pktWrite` -/
@[simp] theorem State.pktWrite_text (s : State) (a n v : Nat) : (s.pktWrite a n v).text = s.text := rfl
@[simp] theorem State.pktWrite_upc (s : State) (a n v : Nat) : (s.pktWrite a n v).upc = s.upc := rfl
@[simp] theorem State.pktWrite_lfsr (s : State) (a n v : Nat) : (s.pktWrite a n v).lfsr = s.lfsr := rfl
@[simp] theorem State.pktWrite_rnd (s : State) (a n v : Nat) : (s.pktWrite a n v).rnd = s.rnd := rfl
@[simp] theorem State.pktWrite_seqNo (s : State) (a n v : Nat) : (s.pktWrite a n v).seqNo = s.seqNo := rfl
@[simp] theorem State.pktWrite_reading (s : State) (a n v : Nat) : (s.pktWrite a n v).reading = s.reading := rfl
@[simp] theorem State.pktWrite_sleepCnt (s : State) (a n v : Nat) : (s.pktWrite a n v).sleepCnt = s.sleepCnt := rfl
@[simp] theorem State.pktWrite_pkt (s : State) (a n v : Nat) : (s.pktWrite a n v).pkt = Memory.writeLE s.pkt a n v := rfl
@[simp] theorem State.pktWrite_convDone (s : State) (a n v : Nat) : (s.pktWrite a n v).convDone = s.convDone := rfl
@[simp] theorem State.pktWrite_alarmFlag (s : State) (a n v : Nat) : (s.pktWrite a n v).alarmFlag = s.alarmFlag := rfl
@[simp] theorem State.pktWrite_sensorPwr (s : State) (a n v : Nat) : (s.pktWrite a n v).sensorPwr = s.sensorPwr := rfl
@[simp] theorem State.pktWrite_radioPwr (s : State) (a n v : Nat) : (s.pktWrite a n v).radioPwr = s.radioPwr := rfl
@[simp] theorem State.pktWrite_txOe (s : State) (a n v : Nat) : (s.pktWrite a n v).txOe = s.txOe := rfl
@[simp] theorem State.pktWrite_txLevel (s : State) (a n v : Nat) : (s.pktWrite a n v).txLevel = s.txLevel := rfl
@[simp] theorem State.pktWrite_adcEn (s : State) (a n v : Nat) : (s.pktWrite a n v).adcEn = s.adcEn := rfl
@[simp] theorem State.pktWrite_adcIe (s : State) (a n v : Nat) : (s.pktWrite a n v).adcIe = s.adcIe := rfl
@[simp] theorem State.pktWrite_adcCfg (s : State) (a n v : Nat) : (s.pktWrite a n v).adcCfg = s.adcCfg := rfl
@[simp] theorem State.pktWrite_wakeEn (s : State) (a n v : Nat) : (s.pktWrite a n v).wakeEn = s.wakeEn := rfl
@[simp] theorem State.pktWrite_lpState (s : State) (a n v : Nat) : (s.pktWrite a n v).lpState = s.lpState := rfl
@[simp] theorem State.pktWrite_txSr (s : State) (a n v : Nat) : (s.pktWrite a n v).txSr = s.txSr := rfl
@[simp] theorem State.pktWrite_txBitcnt (s : State) (a n v : Nat) : (s.pktWrite a n v).txBitcnt = s.txBitcnt := rfl
@[simp] theorem State.pktWrite_txHalf (s : State) (a n v : Nat) : (s.pktWrite a n v).txHalf = s.txHalf := rfl
@[simp] theorem State.pktWrite_adcBusy (s : State) (a n v : Nat) : (s.pktWrite a n v).adcBusy = s.adcBusy := rfl
@[simp] theorem State.pktWrite_adcData (s : State) (a n v : Nat) : (s.pktWrite a n v).adcData = s.adcData := rfl
@[simp] theorem State.pktWrite_trace (s : State) (a n v : Nat) : (s.pktWrite a n v).trace = s.trace := rfl
@[simp] theorem State.pktWrite_moves (s : State) (a n v : Nat) : (s.pktWrite a n v).moves = s.moves := rfl
@[simp] theorem State.pktWrite_tick (s : State) (a n v : Nat) : (s.pktWrite a n v).tick = s.tick := rfl

/-! `clearConvDone` -/
@[simp] theorem State.clearConvDone_text (s : State) : (s.clearConvDone).text = s.text := rfl
@[simp] theorem State.clearConvDone_upc (s : State) : (s.clearConvDone).upc = s.upc := rfl
@[simp] theorem State.clearConvDone_lfsr (s : State) : (s.clearConvDone).lfsr = s.lfsr := rfl
@[simp] theorem State.clearConvDone_rnd (s : State) : (s.clearConvDone).rnd = s.rnd := rfl
@[simp] theorem State.clearConvDone_seqNo (s : State) : (s.clearConvDone).seqNo = s.seqNo := rfl
@[simp] theorem State.clearConvDone_reading (s : State) : (s.clearConvDone).reading = s.reading := rfl
@[simp] theorem State.clearConvDone_sleepCnt (s : State) : (s.clearConvDone).sleepCnt = s.sleepCnt := rfl
@[simp] theorem State.clearConvDone_pkt (s : State) : (s.clearConvDone).pkt = s.pkt := rfl
@[simp] theorem State.clearConvDone_convDone (s : State) : (s.clearConvDone).convDone = false := rfl
@[simp] theorem State.clearConvDone_alarmFlag (s : State) : (s.clearConvDone).alarmFlag = s.alarmFlag := rfl
@[simp] theorem State.clearConvDone_sensorPwr (s : State) : (s.clearConvDone).sensorPwr = s.sensorPwr := rfl
@[simp] theorem State.clearConvDone_radioPwr (s : State) : (s.clearConvDone).radioPwr = s.radioPwr := rfl
@[simp] theorem State.clearConvDone_txOe (s : State) : (s.clearConvDone).txOe = s.txOe := rfl
@[simp] theorem State.clearConvDone_txLevel (s : State) : (s.clearConvDone).txLevel = s.txLevel := rfl
@[simp] theorem State.clearConvDone_adcEn (s : State) : (s.clearConvDone).adcEn = s.adcEn := rfl
@[simp] theorem State.clearConvDone_adcIe (s : State) : (s.clearConvDone).adcIe = s.adcIe := rfl
@[simp] theorem State.clearConvDone_adcCfg (s : State) : (s.clearConvDone).adcCfg = s.adcCfg := rfl
@[simp] theorem State.clearConvDone_wakeEn (s : State) : (s.clearConvDone).wakeEn = s.wakeEn := rfl
@[simp] theorem State.clearConvDone_lpState (s : State) : (s.clearConvDone).lpState = s.lpState := rfl
@[simp] theorem State.clearConvDone_txSr (s : State) : (s.clearConvDone).txSr = s.txSr := rfl
@[simp] theorem State.clearConvDone_txBitcnt (s : State) : (s.clearConvDone).txBitcnt = s.txBitcnt := rfl
@[simp] theorem State.clearConvDone_txHalf (s : State) : (s.clearConvDone).txHalf = s.txHalf := rfl
@[simp] theorem State.clearConvDone_adcBusy (s : State) : (s.clearConvDone).adcBusy = s.adcBusy := rfl
@[simp] theorem State.clearConvDone_adcData (s : State) : (s.clearConvDone).adcData = s.adcData := rfl
@[simp] theorem State.clearConvDone_trace (s : State) : (s.clearConvDone).trace = s.trace := rfl
@[simp] theorem State.clearConvDone_moves (s : State) : (s.clearConvDone).moves = s.moves := rfl
@[simp] theorem State.clearConvDone_tick (s : State) : (s.clearConvDone).tick = s.tick := rfl

/-! `setAlarmFlag` -/
@[simp] theorem State.setAlarmFlag_text (s : State) : (s.setAlarmFlag).text = s.text := rfl
@[simp] theorem State.setAlarmFlag_upc (s : State) : (s.setAlarmFlag).upc = s.upc := rfl
@[simp] theorem State.setAlarmFlag_lfsr (s : State) : (s.setAlarmFlag).lfsr = s.lfsr := rfl
@[simp] theorem State.setAlarmFlag_rnd (s : State) : (s.setAlarmFlag).rnd = s.rnd := rfl
@[simp] theorem State.setAlarmFlag_seqNo (s : State) : (s.setAlarmFlag).seqNo = s.seqNo := rfl
@[simp] theorem State.setAlarmFlag_reading (s : State) : (s.setAlarmFlag).reading = s.reading := rfl
@[simp] theorem State.setAlarmFlag_sleepCnt (s : State) : (s.setAlarmFlag).sleepCnt = s.sleepCnt := rfl
@[simp] theorem State.setAlarmFlag_pkt (s : State) : (s.setAlarmFlag).pkt = s.pkt := rfl
@[simp] theorem State.setAlarmFlag_convDone (s : State) : (s.setAlarmFlag).convDone = s.convDone := rfl
@[simp] theorem State.setAlarmFlag_alarmFlag (s : State) : (s.setAlarmFlag).alarmFlag = true := rfl
@[simp] theorem State.setAlarmFlag_sensorPwr (s : State) : (s.setAlarmFlag).sensorPwr = s.sensorPwr := rfl
@[simp] theorem State.setAlarmFlag_radioPwr (s : State) : (s.setAlarmFlag).radioPwr = s.radioPwr := rfl
@[simp] theorem State.setAlarmFlag_txOe (s : State) : (s.setAlarmFlag).txOe = s.txOe := rfl
@[simp] theorem State.setAlarmFlag_txLevel (s : State) : (s.setAlarmFlag).txLevel = s.txLevel := rfl
@[simp] theorem State.setAlarmFlag_adcEn (s : State) : (s.setAlarmFlag).adcEn = s.adcEn := rfl
@[simp] theorem State.setAlarmFlag_adcIe (s : State) : (s.setAlarmFlag).adcIe = s.adcIe := rfl
@[simp] theorem State.setAlarmFlag_adcCfg (s : State) : (s.setAlarmFlag).adcCfg = s.adcCfg := rfl
@[simp] theorem State.setAlarmFlag_wakeEn (s : State) : (s.setAlarmFlag).wakeEn = s.wakeEn := rfl
@[simp] theorem State.setAlarmFlag_lpState (s : State) : (s.setAlarmFlag).lpState = s.lpState := rfl
@[simp] theorem State.setAlarmFlag_txSr (s : State) : (s.setAlarmFlag).txSr = s.txSr := rfl
@[simp] theorem State.setAlarmFlag_txBitcnt (s : State) : (s.setAlarmFlag).txBitcnt = s.txBitcnt := rfl
@[simp] theorem State.setAlarmFlag_txHalf (s : State) : (s.setAlarmFlag).txHalf = s.txHalf := rfl
@[simp] theorem State.setAlarmFlag_adcBusy (s : State) : (s.setAlarmFlag).adcBusy = s.adcBusy := rfl
@[simp] theorem State.setAlarmFlag_adcData (s : State) : (s.setAlarmFlag).adcData = s.adcData := rfl
@[simp] theorem State.setAlarmFlag_trace (s : State) : (s.setAlarmFlag).trace = s.trace := rfl
@[simp] theorem State.setAlarmFlag_moves (s : State) : (s.setAlarmFlag).moves = s.moves := rfl
@[simp] theorem State.setAlarmFlag_tick (s : State) : (s.setAlarmFlag).tick = s.tick := rfl

/-! `clearAlarmFlag` -/
@[simp] theorem State.clearAlarmFlag_text (s : State) : (s.clearAlarmFlag).text = s.text := rfl
@[simp] theorem State.clearAlarmFlag_upc (s : State) : (s.clearAlarmFlag).upc = s.upc := rfl
@[simp] theorem State.clearAlarmFlag_lfsr (s : State) : (s.clearAlarmFlag).lfsr = s.lfsr := rfl
@[simp] theorem State.clearAlarmFlag_rnd (s : State) : (s.clearAlarmFlag).rnd = s.rnd := rfl
@[simp] theorem State.clearAlarmFlag_seqNo (s : State) : (s.clearAlarmFlag).seqNo = s.seqNo := rfl
@[simp] theorem State.clearAlarmFlag_reading (s : State) : (s.clearAlarmFlag).reading = s.reading := rfl
@[simp] theorem State.clearAlarmFlag_sleepCnt (s : State) : (s.clearAlarmFlag).sleepCnt = s.sleepCnt := rfl
@[simp] theorem State.clearAlarmFlag_pkt (s : State) : (s.clearAlarmFlag).pkt = s.pkt := rfl
@[simp] theorem State.clearAlarmFlag_convDone (s : State) : (s.clearAlarmFlag).convDone = s.convDone := rfl
@[simp] theorem State.clearAlarmFlag_alarmFlag (s : State) : (s.clearAlarmFlag).alarmFlag = false := rfl
@[simp] theorem State.clearAlarmFlag_sensorPwr (s : State) : (s.clearAlarmFlag).sensorPwr = s.sensorPwr := rfl
@[simp] theorem State.clearAlarmFlag_radioPwr (s : State) : (s.clearAlarmFlag).radioPwr = s.radioPwr := rfl
@[simp] theorem State.clearAlarmFlag_txOe (s : State) : (s.clearAlarmFlag).txOe = s.txOe := rfl
@[simp] theorem State.clearAlarmFlag_txLevel (s : State) : (s.clearAlarmFlag).txLevel = s.txLevel := rfl
@[simp] theorem State.clearAlarmFlag_adcEn (s : State) : (s.clearAlarmFlag).adcEn = s.adcEn := rfl
@[simp] theorem State.clearAlarmFlag_adcIe (s : State) : (s.clearAlarmFlag).adcIe = s.adcIe := rfl
@[simp] theorem State.clearAlarmFlag_adcCfg (s : State) : (s.clearAlarmFlag).adcCfg = s.adcCfg := rfl
@[simp] theorem State.clearAlarmFlag_wakeEn (s : State) : (s.clearAlarmFlag).wakeEn = s.wakeEn := rfl
@[simp] theorem State.clearAlarmFlag_lpState (s : State) : (s.clearAlarmFlag).lpState = s.lpState := rfl
@[simp] theorem State.clearAlarmFlag_txSr (s : State) : (s.clearAlarmFlag).txSr = s.txSr := rfl
@[simp] theorem State.clearAlarmFlag_txBitcnt (s : State) : (s.clearAlarmFlag).txBitcnt = s.txBitcnt := rfl
@[simp] theorem State.clearAlarmFlag_txHalf (s : State) : (s.clearAlarmFlag).txHalf = s.txHalf := rfl
@[simp] theorem State.clearAlarmFlag_adcBusy (s : State) : (s.clearAlarmFlag).adcBusy = s.adcBusy := rfl
@[simp] theorem State.clearAlarmFlag_adcData (s : State) : (s.clearAlarmFlag).adcData = s.adcData := rfl
@[simp] theorem State.clearAlarmFlag_trace (s : State) : (s.clearAlarmFlag).trace = s.trace := rfl
@[simp] theorem State.clearAlarmFlag_moves (s : State) : (s.clearAlarmFlag).moves = s.moves := rfl
@[simp] theorem State.clearAlarmFlag_tick (s : State) : (s.clearAlarmFlag).tick = s.tick := rfl

/-! `driveSlot` -/
@[simp] theorem State.driveSlot_text (s : State) (v : Bool) : (s.driveSlot v).text = s.text := rfl
@[simp] theorem State.driveSlot_upc (s : State) (v : Bool) : (s.driveSlot v).upc = s.upc := rfl
@[simp] theorem State.driveSlot_lfsr (s : State) (v : Bool) : (s.driveSlot v).lfsr = s.lfsr := rfl
@[simp] theorem State.driveSlot_rnd (s : State) (v : Bool) : (s.driveSlot v).rnd = s.rnd := rfl
@[simp] theorem State.driveSlot_seqNo (s : State) (v : Bool) : (s.driveSlot v).seqNo = s.seqNo := rfl
@[simp] theorem State.driveSlot_reading (s : State) (v : Bool) : (s.driveSlot v).reading = s.reading := rfl
@[simp] theorem State.driveSlot_sleepCnt (s : State) (v : Bool) : (s.driveSlot v).sleepCnt = s.sleepCnt := rfl
@[simp] theorem State.driveSlot_pkt (s : State) (v : Bool) : (s.driveSlot v).pkt = s.pkt := rfl
@[simp] theorem State.driveSlot_convDone (s : State) (v : Bool) : (s.driveSlot v).convDone = s.convDone := rfl
@[simp] theorem State.driveSlot_alarmFlag (s : State) (v : Bool) : (s.driveSlot v).alarmFlag = s.alarmFlag := rfl
@[simp] theorem State.driveSlot_sensorPwr (s : State) (v : Bool) : (s.driveSlot v).sensorPwr = s.sensorPwr := rfl
@[simp] theorem State.driveSlot_radioPwr (s : State) (v : Bool) : (s.driveSlot v).radioPwr = s.radioPwr := rfl
@[simp] theorem State.driveSlot_txOe (s : State) (v : Bool) : (s.driveSlot v).txOe = s.txOe := rfl
@[simp] theorem State.driveSlot_txLevel (s : State) (v : Bool) : (s.driveSlot v).txLevel = v := rfl
@[simp] theorem State.driveSlot_adcEn (s : State) (v : Bool) : (s.driveSlot v).adcEn = s.adcEn := rfl
@[simp] theorem State.driveSlot_adcIe (s : State) (v : Bool) : (s.driveSlot v).adcIe = s.adcIe := rfl
@[simp] theorem State.driveSlot_adcCfg (s : State) (v : Bool) : (s.driveSlot v).adcCfg = s.adcCfg := rfl
@[simp] theorem State.driveSlot_wakeEn (s : State) (v : Bool) : (s.driveSlot v).wakeEn = s.wakeEn := rfl
@[simp] theorem State.driveSlot_lpState (s : State) (v : Bool) : (s.driveSlot v).lpState = s.lpState := rfl
@[simp] theorem State.driveSlot_txSr (s : State) (v : Bool) : (s.driveSlot v).txSr = s.txSr := rfl
@[simp] theorem State.driveSlot_txBitcnt (s : State) (v : Bool) : (s.driveSlot v).txBitcnt = s.txBitcnt := rfl
@[simp] theorem State.driveSlot_txHalf (s : State) (v : Bool) : (s.driveSlot v).txHalf = s.txHalf := rfl
@[simp] theorem State.driveSlot_adcBusy (s : State) (v : Bool) : (s.driveSlot v).adcBusy = s.adcBusy := rfl
@[simp] theorem State.driveSlot_adcData (s : State) (v : Bool) : (s.driveSlot v).adcData = s.adcData := rfl
@[simp] theorem State.driveSlot_trace (s : State) (v : Bool) : (s.driveSlot v).trace = s.trace ++ [.level v, .wait .half] := rfl
@[simp] theorem State.driveSlot_moves (s : State) (v : Bool) : (s.driveSlot v).moves = s.moves := rfl
@[simp] theorem State.driveSlot_tick (s : State) (v : Bool) : (s.driveSlot v).tick = s.tick := rfl

/-! `wake` -/
@[simp] theorem State.wake_text (s : State) : (s.wake).text = s.text := by
  unfold State.wake; split <;> simp_all
@[simp] theorem State.wake_upc (s : State) : (s.wake).upc = s.upc := by
  unfold State.wake; split <;> simp_all
@[simp] theorem State.wake_lfsr (s : State) : (s.wake).lfsr = s.lfsr := by
  unfold State.wake; split <;> simp_all
@[simp] theorem State.wake_rnd (s : State) : (s.wake).rnd = s.rnd := by
  unfold State.wake; split <;> simp_all
@[simp] theorem State.wake_seqNo (s : State) : (s.wake).seqNo = s.seqNo := by
  unfold State.wake; split <;> simp_all
@[simp] theorem State.wake_reading (s : State) : (s.wake).reading = s.reading := by
  unfold State.wake; split <;> simp_all
@[simp] theorem State.wake_sleepCnt (s : State) : (s.wake).sleepCnt = s.sleepCnt := by
  unfold State.wake; split <;> simp_all
@[simp] theorem State.wake_pkt (s : State) : (s.wake).pkt = s.pkt := by
  unfold State.wake; split <;> simp_all
@[simp] theorem State.wake_convDone (s : State) : (s.wake).convDone = s.convDone := by
  unfold State.wake; split <;> simp_all
@[simp] theorem State.wake_alarmFlag (s : State) : (s.wake).alarmFlag = s.alarmFlag := by
  unfold State.wake; split <;> simp_all
@[simp] theorem State.wake_sensorPwr (s : State) : (s.wake).sensorPwr = s.sensorPwr := by
  unfold State.wake; split <;> simp_all
@[simp] theorem State.wake_radioPwr (s : State) : (s.wake).radioPwr = s.radioPwr := by
  unfold State.wake; split <;> simp_all
@[simp] theorem State.wake_txOe (s : State) : (s.wake).txOe = s.txOe := by
  unfold State.wake; split <;> simp_all
@[simp] theorem State.wake_txLevel (s : State) : (s.wake).txLevel = s.txLevel := by
  unfold State.wake; split <;> simp_all
@[simp] theorem State.wake_adcEn (s : State) : (s.wake).adcEn = s.adcEn := by
  unfold State.wake; split <;> simp_all
@[simp] theorem State.wake_adcIe (s : State) : (s.wake).adcIe = s.adcIe := by
  unfold State.wake; split <;> simp_all
@[simp] theorem State.wake_adcCfg (s : State) : (s.wake).adcCfg = s.adcCfg := by
  unfold State.wake; split <;> simp_all
@[simp] theorem State.wake_wakeEn (s : State) : (s.wake).wakeEn = s.wakeEn := by
  unfold State.wake; split <;> simp_all
@[simp] theorem State.wake_lpState (s : State) : (s.wake).lpState = .run := by
  unfold State.wake; split <;> simp_all
@[simp] theorem State.wake_txSr (s : State) : (s.wake).txSr = s.txSr := by
  unfold State.wake; split <;> simp_all
@[simp] theorem State.wake_txBitcnt (s : State) : (s.wake).txBitcnt = s.txBitcnt := by
  unfold State.wake; split <;> simp_all
@[simp] theorem State.wake_txHalf (s : State) : (s.wake).txHalf = s.txHalf := by
  unfold State.wake; split <;> simp_all
@[simp] theorem State.wake_adcBusy (s : State) : (s.wake).adcBusy = s.adcBusy := by
  unfold State.wake; split <;> simp_all
@[simp] theorem State.wake_adcData (s : State) : (s.wake).adcData = s.adcData := by
  unfold State.wake; split <;> simp_all
@[simp] theorem State.wake_moves (s : State) : (s.wake).moves = s.moves := by
  unfold State.wake; split <;> simp_all
@[simp] theorem State.wake_tick (s : State) : (s.wake).tick = s.tick := by
  unfold State.wake; split <;> simp_all

/-! `takeConv` -/
@[simp] theorem State.takeConv_text (s : State) : (s.takeConv).text = s.text := by simp [State.takeConv]
@[simp] theorem State.takeConv_upc (s : State) : (s.takeConv).upc = s.upc := by simp [State.takeConv]
@[simp] theorem State.takeConv_lfsr (s : State) : (s.takeConv).lfsr = s.lfsr := by simp [State.takeConv]
@[simp] theorem State.takeConv_rnd (s : State) : (s.takeConv).rnd = s.rnd := by simp [State.takeConv]
@[simp] theorem State.takeConv_seqNo (s : State) : (s.takeConv).seqNo = s.seqNo := by simp [State.takeConv]
@[simp] theorem State.takeConv_reading (s : State) : (s.takeConv).reading = s.reading := by simp [State.takeConv]
@[simp] theorem State.takeConv_sleepCnt (s : State) : (s.takeConv).sleepCnt = s.sleepCnt := by simp [State.takeConv]
@[simp] theorem State.takeConv_pkt (s : State) : (s.takeConv).pkt = s.pkt := by simp [State.takeConv]
@[simp] theorem State.takeConv_convDone (s : State) : (s.takeConv).convDone = true := by simp [State.takeConv]
@[simp] theorem State.takeConv_alarmFlag (s : State) : (s.takeConv).alarmFlag = s.alarmFlag := by simp [State.takeConv]
@[simp] theorem State.takeConv_sensorPwr (s : State) : (s.takeConv).sensorPwr = s.sensorPwr := by simp [State.takeConv]
@[simp] theorem State.takeConv_radioPwr (s : State) : (s.takeConv).radioPwr = s.radioPwr := by simp [State.takeConv]
@[simp] theorem State.takeConv_txOe (s : State) : (s.takeConv).txOe = s.txOe := by simp [State.takeConv]
@[simp] theorem State.takeConv_txLevel (s : State) : (s.takeConv).txLevel = s.txLevel := by simp [State.takeConv]
@[simp] theorem State.takeConv_adcEn (s : State) : (s.takeConv).adcEn = s.adcEn := by simp [State.takeConv]
@[simp] theorem State.takeConv_adcIe (s : State) : (s.takeConv).adcIe = s.adcIe := by simp [State.takeConv]
@[simp] theorem State.takeConv_adcCfg (s : State) : (s.takeConv).adcCfg = s.adcCfg := by simp [State.takeConv]
@[simp] theorem State.takeConv_wakeEn (s : State) : (s.takeConv).wakeEn = s.wakeEn := by simp [State.takeConv]
@[simp] theorem State.takeConv_lpState (s : State) : (s.takeConv).lpState = .run := by simp [State.takeConv]
@[simp] theorem State.takeConv_txSr (s : State) : (s.takeConv).txSr = s.txSr := by simp [State.takeConv]
@[simp] theorem State.takeConv_txBitcnt (s : State) : (s.takeConv).txBitcnt = s.txBitcnt := by simp [State.takeConv]
@[simp] theorem State.takeConv_txHalf (s : State) : (s.takeConv).txHalf = s.txHalf := by simp [State.takeConv]
@[simp] theorem State.takeConv_adcBusy (s : State) : (s.takeConv).adcBusy = s.adcBusy := by simp [State.takeConv]
@[simp] theorem State.takeConv_adcData (s : State) : (s.takeConv).adcData = s.adcData := by simp [State.takeConv]
@[simp] theorem State.takeConv_moves (s : State) : (s.takeConv).moves = s.moves := by simp [State.takeConv]
@[simp] theorem State.takeConv_tick (s : State) : (s.takeConv).tick = s.tick := by simp [State.takeConv]

/-! `takeAlarm` -/
@[simp] theorem State.takeAlarm_text (s : State) : (s.takeAlarm).text = s.text := by simp [State.takeAlarm]
@[simp] theorem State.takeAlarm_upc (s : State) : (s.takeAlarm).upc = s.upc := by simp [State.takeAlarm]
@[simp] theorem State.takeAlarm_lfsr (s : State) : (s.takeAlarm).lfsr = s.lfsr := by simp [State.takeAlarm]
@[simp] theorem State.takeAlarm_rnd (s : State) : (s.takeAlarm).rnd = s.rnd := by simp [State.takeAlarm]
@[simp] theorem State.takeAlarm_seqNo (s : State) : (s.takeAlarm).seqNo = s.seqNo := by simp [State.takeAlarm]
@[simp] theorem State.takeAlarm_reading (s : State) : (s.takeAlarm).reading = s.reading := by simp [State.takeAlarm]
@[simp] theorem State.takeAlarm_sleepCnt (s : State) : (s.takeAlarm).sleepCnt = s.sleepCnt := by simp [State.takeAlarm]
@[simp] theorem State.takeAlarm_pkt (s : State) : (s.takeAlarm).pkt = s.pkt := by simp [State.takeAlarm]
@[simp] theorem State.takeAlarm_convDone (s : State) : (s.takeAlarm).convDone = s.convDone := by simp [State.takeAlarm]
@[simp] theorem State.takeAlarm_alarmFlag (s : State) : (s.takeAlarm).alarmFlag = false := by simp [State.takeAlarm]
@[simp] theorem State.takeAlarm_sensorPwr (s : State) : (s.takeAlarm).sensorPwr = s.sensorPwr := by simp [State.takeAlarm]
@[simp] theorem State.takeAlarm_radioPwr (s : State) : (s.takeAlarm).radioPwr = s.radioPwr := by simp [State.takeAlarm]
@[simp] theorem State.takeAlarm_txOe (s : State) : (s.takeAlarm).txOe = s.txOe := by simp [State.takeAlarm]
@[simp] theorem State.takeAlarm_txLevel (s : State) : (s.takeAlarm).txLevel = s.txLevel := by simp [State.takeAlarm]
@[simp] theorem State.takeAlarm_adcEn (s : State) : (s.takeAlarm).adcEn = s.adcEn := by simp [State.takeAlarm]
@[simp] theorem State.takeAlarm_adcIe (s : State) : (s.takeAlarm).adcIe = s.adcIe := by simp [State.takeAlarm]
@[simp] theorem State.takeAlarm_adcCfg (s : State) : (s.takeAlarm).adcCfg = s.adcCfg := by simp [State.takeAlarm]
@[simp] theorem State.takeAlarm_wakeEn (s : State) : (s.takeAlarm).wakeEn = s.wakeEn := by simp [State.takeAlarm]
@[simp] theorem State.takeAlarm_lpState (s : State) : (s.takeAlarm).lpState = .run := by simp [State.takeAlarm]
@[simp] theorem State.takeAlarm_txSr (s : State) : (s.takeAlarm).txSr = s.txSr := by simp [State.takeAlarm]
@[simp] theorem State.takeAlarm_txBitcnt (s : State) : (s.takeAlarm).txBitcnt = s.txBitcnt := by simp [State.takeAlarm]
@[simp] theorem State.takeAlarm_txHalf (s : State) : (s.takeAlarm).txHalf = s.txHalf := by simp [State.takeAlarm]
@[simp] theorem State.takeAlarm_adcBusy (s : State) : (s.takeAlarm).adcBusy = s.adcBusy := by simp [State.takeAlarm]
@[simp] theorem State.takeAlarm_adcData (s : State) : (s.takeAlarm).adcData = s.adcData := by simp [State.takeAlarm]
@[simp] theorem State.takeAlarm_moves (s : State) : (s.takeAlarm).moves = s.moves := by simp [State.takeAlarm]
@[simp] theorem State.takeAlarm_tick (s : State) : (s.takeAlarm).tick = s.tick := by simp [State.takeAlarm]

/-! `popMove` -/
@[simp] theorem State.popMove_text (s : State) : (s.popMove).text = s.text := by
  unfold State.popMove; split <;> rfl
@[simp] theorem State.popMove_upc (s : State) : (s.popMove).upc = s.upc := by
  unfold State.popMove; split <;> rfl
@[simp] theorem State.popMove_lfsr (s : State) : (s.popMove).lfsr = s.lfsr := by
  unfold State.popMove; split <;> rfl
@[simp] theorem State.popMove_rnd (s : State) : (s.popMove).rnd = s.rnd := by
  unfold State.popMove; split <;> rfl
@[simp] theorem State.popMove_seqNo (s : State) : (s.popMove).seqNo = s.seqNo := by
  unfold State.popMove; split <;> rfl
@[simp] theorem State.popMove_reading (s : State) : (s.popMove).reading = s.reading := by
  unfold State.popMove; split <;> rfl
@[simp] theorem State.popMove_sleepCnt (s : State) : (s.popMove).sleepCnt = s.sleepCnt := by
  unfold State.popMove; split <;> rfl
@[simp] theorem State.popMove_pkt (s : State) : (s.popMove).pkt = s.pkt := by
  unfold State.popMove; split <;> rfl
@[simp] theorem State.popMove_convDone (s : State) : (s.popMove).convDone = s.convDone := by
  unfold State.popMove; split <;> rfl
@[simp] theorem State.popMove_alarmFlag (s : State) : (s.popMove).alarmFlag = s.alarmFlag := by
  unfold State.popMove; split <;> rfl
@[simp] theorem State.popMove_sensorPwr (s : State) : (s.popMove).sensorPwr = s.sensorPwr := by
  unfold State.popMove; split <;> rfl
@[simp] theorem State.popMove_radioPwr (s : State) : (s.popMove).radioPwr = s.radioPwr := by
  unfold State.popMove; split <;> rfl
@[simp] theorem State.popMove_txOe (s : State) : (s.popMove).txOe = s.txOe := by
  unfold State.popMove; split <;> rfl
@[simp] theorem State.popMove_txLevel (s : State) : (s.popMove).txLevel = s.txLevel := by
  unfold State.popMove; split <;> rfl
@[simp] theorem State.popMove_adcEn (s : State) : (s.popMove).adcEn = s.adcEn := by
  unfold State.popMove; split <;> rfl
@[simp] theorem State.popMove_adcIe (s : State) : (s.popMove).adcIe = s.adcIe := by
  unfold State.popMove; split <;> rfl
@[simp] theorem State.popMove_adcCfg (s : State) : (s.popMove).adcCfg = s.adcCfg := by
  unfold State.popMove; split <;> rfl
@[simp] theorem State.popMove_wakeEn (s : State) : (s.popMove).wakeEn = s.wakeEn := by
  unfold State.popMove; split <;> rfl
@[simp] theorem State.popMove_lpState (s : State) : (s.popMove).lpState = s.lpState := by
  unfold State.popMove; split <;> rfl
@[simp] theorem State.popMove_txSr (s : State) : (s.popMove).txSr = s.txSr := by
  unfold State.popMove; split <;> rfl
@[simp] theorem State.popMove_txBitcnt (s : State) : (s.popMove).txBitcnt = s.txBitcnt := by
  unfold State.popMove; split <;> rfl
@[simp] theorem State.popMove_txHalf (s : State) : (s.popMove).txHalf = s.txHalf := by
  unfold State.popMove; split <;> rfl
@[simp] theorem State.popMove_adcBusy (s : State) : (s.popMove).adcBusy = s.adcBusy := by
  unfold State.popMove; split <;> rfl
@[simp] theorem State.popMove_adcData (s : State) : (s.popMove).adcData = s.adcData := by
  unfold State.popMove; split <;> rfl
@[simp] theorem State.popMove_trace (s : State) : (s.popMove).trace = s.trace := by
  unfold State.popMove; split <;> rfl

/-- The trace a wake leaves: one `LP(RUN)` if SEQ was in a low-power state. -/
theorem State.wake_trace (s : State) :
    s.wake.trace = if s.lpState = .run then s.trace else s.trace ++ [.lp .run] := by
  unfold State.wake; split <;> rfl

/-- Everything a wake can do. -/
theorem State.wake_cases (s : State) :
    (s.lpState = .run ∧ s.wake = s) ∨
    (s.lpState ≠ .run ∧ s.wake = { s with lpState := .run, trace := s.trace ++ [.lp .run] }) := by
  unfold State.wake
  split
  · exact .inl ⟨‹_›, rfl⟩
  · exact .inr ⟨‹_›, rfl⟩

/-- Everything a move of ADCAGENT can do. -/
theorem State.adcComplete_cases (s : State) (d : Sample) :
    (s.adcBusy = false ∧ s.adcComplete d = s) ∨
    (s.adcBusy = true ∧ s.adcIe = false ∧ s.adcComplete d = { s with adcBusy := false, adcData := d }) ∨
    (s.adcBusy = true ∧ s.adcIe = true ∧
      s.adcComplete d = { s with adcBusy := false, adcData := d }.takeConv) := by
  unfold State.adcComplete State.convDeliverable
  cases s.adcBusy <;> cases s.adcIe <;> simp

/-- Everything a delivery move of ALARMAGENT can do. -/
theorem State.alarmDeliver_cases (s : State) :
    ((s.wakeEn = false ∨ s.alarmFlag = false) ∧ s.alarmDeliver = s) ∨
    (s.wakeEn = true ∧ s.alarmFlag = true ∧ s.alarmDeliver = s.takeAlarm) := by
  unfold State.alarmDeliver State.alarmDeliverable
  cases hw : s.wakeEn <;> cases hf : s.alarmFlag <;> simp

end Sys2Proof.Machine
end

