-- ==== Sys2Proof/Laws/Step.lean ====
section
/-! SUPPORT. Everything a step can do, said once. -/

namespace Sys2Proof.Machine

/-- Using up a move changes only the model's schedule fields. -/
theorem State.popMove_eq (s : State) :
    s.popMove = { s with moves := s.popMove.moves, tick := s.popMove.tick } := by
  unfold State.popMove; split <;> rfl

/-- Everything SEQ's step can do when it answers a next state: nothing while held, otherwise the decoded
operation (45_control.md R221). -/
theorem seqStep_next {s t : State} (h : seqStep s = .next t) :
    (s.lpState ≠ .run ∧ t = s) ∨
    (s.lpState = .run ∧ ∃ w i, s.fetch = some w ∧ decode w = .ok i ∧ exec i s = .next t) := by
  unfold seqStep at h
  split at h
  · rename_i hl
    split at h
    · cases h
    · rename_i w hw
      split at h
      · cases h
      · rename_i i hi
        exact .inr ⟨hl, w, i, hw, hi, h⟩
  · rename_i hl
    cases h
    exact .inl ⟨hl, rfl⟩

/-- Everything a step can do when it answers a next state: the next move, made by its agent. -/
theorem step_next {s t : State} (h : step s = .next t) :
    (s.nextMove = .seq ∧ seqStep s.popMove = .next t) ∨
    (∃ d, s.nextMove = .adcDone d ∧ t = s.popMove.adcComplete d) ∨
    (s.nextMove = .alarmExpire ∧ t = s.popMove.alarmExpire) ∨
    (s.nextMove = .alarmDeliver ∧ t = s.popMove.alarmDeliver) ∨
    (s.nextMove = .powerLoss ∧ t = s.popMove.powerLoss) := by
  unfold step runMove at h
  split at h <;> rename_i hm <;> simp_all

/-- With a move decided, it is the next one and using it up leaves the rest. -/
theorem step_decided {s : State} {m : Move} {rest : List Move} (h : s.moves = m :: rest) :
    step s = runMove m { s with moves := rest } := by
  simp [step, State.nextMove, State.popMove, h]

end Sys2Proof.Machine
end

