-- ==== Sys2Proof/Laws/Tx.lean ====
section
/-! SUPPORT. Everything `send_byte` does, said once (43_tx.md R175). -/

namespace Sys2Proof.Machine

/-- One bit of the serializer: two slots at `(b, ~b)`, the register shifted, the index counted. -/
theorem State.sendBit_eq (s : State) :
    s.sendBit = { s with
      txLevel := !s.txSr.getLsbD 0
      txSr := s.txSr >>> 1
      txBitcnt := s.txBitcnt + 1#3
      txHalf := false
      trace := s.trace ++ slotEvents (manchesterBit (s.txSr.getLsbD 0)) } := by
  simp [State.sendBit, State.driveSlot, State.emit, slotEvents, manchesterBit]

/-- `send_byte(B)` drives the levels of `manchester(B)` and leaves the serializer at rest with the line at the
complement of bit 7. -/
theorem State.sendByte_eq (s : State) (b : Byte) :
    s.sendByte b = { s with
      txLevel := !b.getLsbD 7
      txSr := 0x00#8
      txBitcnt := 0#3
      txHalf := false
      trace := s.trace ++ slotEvents (manchester b) } := by
  have shifted : b >>> 1 >>> 1 >>> 1 >>> 1 >>> 1 >>> 1 >>> 1 >>> 1 = 0x00#8 := by
    simp only [← BitVec.shiftRight_add]
    exact BitVec.ushiftRight_eq_zero (by omega)
  simp only [State.sendByte, State.sendBits, State.sendBit_eq, shifted, List.append_assoc]
  simp [slotEvents, manchester, manchesterBit, List.range_succ]

end Sys2Proof.Machine
end

