-- ==== Sys2Proof/Tests/Slice0.lean ====
section
/-! SUPPORT. Tests of the model against the spec's own vectors (95_test_vectors.md), the smoke test of
WellFormed, and a witness for every statement that has hypotheses. -/

namespace Sys2Proof.Tests

open Sys2Proof Sys2Proof.Machine Sys2Proof.Safety

/-! ## Helpers -/

/-- The vectors' start state: reset with `LFSR_SEED` = 0xACE1 (95_test_vectors.md, section 3). -/
def bench : State := { State.reset with lfsr := 0xACE1#16 }

/-- The state a step answers, for reading its fields; `State.reset` if it stops. -/
def after : Result → State
  | .next t => t
  | .fault _ => State.reset
  | .refused _ => State.reset

/-- The step answers a next state. -/
def isNext : Result → Bool
  | .next _ => true
  | .fault _ => false
  | .refused _ => false

/-- The step is refused with this reason. -/
def isRefused (why : Refusal) : Result → Bool
  | .next _ => false
  | .fault _ => false
  | .refused r => decide (r = why)

/-! ## WellFormed: an ill-formed term for each check -/

theorem test_wellFormed_jump : (Instr.ctlJmp 0x20#8).wellFormed 33 = true ∧ (Instr.ctlJmp 0x21#8).wellFormed 33 = false := by
  decide

theorem test_wellFormed_offset : (Instr.txSendp 6#8).wellFormed 33 = true ∧ (Instr.txSendp 7#8).wellFormed 33 = false := by
  decide

/-! ## Decoding: words written out from 30_encoding.md R80, R82, and the vectors of 95_test_vectors.md 2.6 -/

theorem test_decode_ctl : decode 0b0000000100100000#16 = .ok (.ctlJmp 0x20#8) := by decide

theorem test_decode_lfsr : decode 0b0001000000000000#16 = .ok .lfsrStep ∧
    decode 0b0001000100000000#16 = .ok .lfsrNext ∧
    decode 0b0001001011111111#16 = .ok (.lfsrMix 0xFF#8) := by decide

theorem test_decode_adc : decode 0b0010000000000000#16 = .ok .adcPwrup ∧
    decode 0b0010000100000000#16 = .ok .adcCfg ∧ decode 0b0010001000000000#16 = .ok .adcStart ∧
    decode 0b0010001100000000#16 = .ok .adcWait ∧ decode 0b0010010000000000#16 = .ok .adcDrop ∧
    decode 0b0010010100000000#16 = .ok .adcTake ∧ decode 0b0010011000000000#16 = .ok .adcPwrdn := by decide

theorem test_decode_pkt : decode 0b0011000000000000#16 = .ok .pktSeqinc ∧
    decode 0b0011000100000000#16 = .ok .pktBuild ∧ decode 0b0011001000000000#16 = .ok .pktCksum := by decide

theorem test_decode_tx : decode 0b0100000000000000#16 = .ok .txPwrup ∧
    decode 0b0100000101111111#16 = .ok (.txSendi 0x7F#8) ∧
    decode 0b0100001000000110#16 = .ok (.txSendp 6#8) ∧
    decode 0b0100001100000000#16 = .ok .txTail ∧ decode 0b0100010000000000#16 = .ok .txPwrdn := by decide

theorem test_decode_slp : decode 0b0101000000000000#16 = .ok .slpCalc ∧
    decode 0b0101000100000000#16 = .ok .slpArm ∧ decode 0b0101001000000000#16 = .ok .slpWait ∧
    decode 0b0101001100000000#16 = .ok .slpDisarm := by decide

theorem test_decode_illegal : decode 0x0000#16 = .error .reservedFn ∧ decode 0x0200#16 = .error .reservedFn ∧
    decode 0x1001#16 = .error .immNotZero ∧ decode 0x1300#16 = .error .reservedFn ∧
    decode 0x2700#16 = .error .reservedFn ∧ decode 0x3300#16 = .error .reservedFn ∧
    decode 0x4500#16 = .error .reservedFn ∧ decode 0x5400#16 = .error .reservedFn ∧
    decode 0x6000#16 = .error .reservedUnit ∧ decode 0xFFFF#16 = .error .reservedUnit := by decide

/-- No word selects two rows: two rows whose patterns agree under both masks do not exist. -/
theorem test_rows_disjoint :
    opcodeTable.Pairwise fun r r' => r.pattern &&& (r.mask &&& r'.mask) ≠ r'.pattern &&& (r.mask &&& r'.mask) := by
  decide

/-- Every row's word, placed where SEQ fetches, is decoded and run by the very next step after reset. -/
theorem test_every_row_runs_first : (opcodeTable.map fun r => r.pattern.toNat).all (fun w =>
    (decodeTableWord 16 w).isSome && isNext (step (State.reset.withFetchWord 16 w))) = true := by decide

/-! ## Parameters (00_scope.md R8) -/

theorem test_parameters : Config.pktLen = 7 ∧ Config.romLen = 33 ∧ Config.baseIter = 117 ∧
    Config.baseIter + Config.jitterMask.toNat < 2 ^ Config.cntW ∧
    Config.adcWidth ≤ 8 * Config.readingBytes := by decide

theorem test_loop_states : loopStateAt 0x0A = some .sample ∧ loopStateAt 0x0B = some .transmit ∧
    loopStateAt 0x1A = some .transmit ∧ loopStateAt 0x1B = some .sleep ∧ loopStateAt 0x20 = some .sleep ∧
    loopStateAt 0x21 = none := by decide

/-! ## Unit LFSR (95_test_vectors.md 2.1) -/

theorem test_lfsr_step_vectors : (after (exec .lfsrStep bench)).lfsr = 0x59C3#16 ∧
    lfsrStep 0xACE1#16 0x8000#16 = 0x0001#16 ∧ lfsrStep 0xACE1#16 0xFFFF#16 = 0xFFFE#16 ∧
    lfsrStep 0xACE1#16 0x2400#16 = 0x4800#16 ∧ lfsrStep 0xACE1#16 0x3400#16 = 0x6801#16 ∧
    lfsrStep 0xACE1#16 0xAAAA#16 = 0x5554#16 := by decide

theorem test_lfsr_step_zero_guard : lfsrStep 0xACE1#16 0x0000#16 = 0x59C3#16 ∧
    lfsrStep 0x0001#16 0x0000#16 = 0x0002#16 := by decide

theorem test_lfsr_next_vectors : (after (exec .lfsrNext bench)).lfsr = 0xE1E4#16 ∧
    (after (exec .lfsrNext bench)).rnd = 0xE4#8 ∧ lfsrNext 0xACE1#16 0x0001#16 = 0x0100#16 ∧
    lfsrNext 0xACE1#16 0x0000#16 = 0xE1E4#16 ∧ lfsrNext 0xACE1#16 0x2CE9#16 = 0xE965#16 := by decide

theorem test_lfsr_mix_vectors : (after (exec (.lfsrMix 0x31#8) bench)).lfsr = 0x2CE9#16 ∧
    (after (exec (.lfsrMix 0xFE#8) bench)).lfsr = 0xACE1#16 ∧ lfsrMix 0x8008#16 0x01#8 = 0x8008#16 ∧
    lfsrMix 0x0000#16 0x01#8 = 0x0000#16 ∧ lfsrMix 0xFFF7#16 0x01#8 = 0x7FFF#16 := by decide

/-! ## Unit ADC (95_test_vectors.md 2.2, 2.7) -/

theorem test_adc_pwrup : (after (exec .adcPwrup bench)).trace = [.sensor true] ∧
    (after (exec .adcPwrup bench)).upc = 1#8 := by decide

theorem test_adc_cfg : (after (exec .adcCfg { bench with convDone := true })).adcIe = true ∧
    (after (exec .adcCfg { bench with convDone := true })).convDone = true := by decide

theorem test_adc_start_disabled : (after (exec .adcStart { bench with convDone := true })).adcBusy = false ∧
    (after (exec .adcStart { bench with convDone := true })).convDone = false := by decide

theorem test_adc_start_enabled : (after (exec .adcStart { bench with adcEn := true })).adcBusy = true := by decide

theorem test_adc_wait_holds : (after (exec .adcWait bench)).lpState = .light ∧
    (after (exec .adcWait bench)).upc = 0#8 ∧ (after (exec .adcWait bench)).trace = [.lp .light] := by decide

theorem test_adc_wait_completes : (after (exec .adcWait { bench with convDone := true })).upc = 1#8 ∧
    (after (exec .adcWait { bench with convDone := true })).trace = [] := by decide

theorem test_adc_drop : after (exec .adcDrop { bench with adcData := 301#10, reading := 7#16 }) =
    { bench with adcData := 301#10, reading := 7#16, upc := 1#8 } := rfl

theorem test_adc_take_odd : (after (exec .adcTake { bench with adcData := 305#10 })).reading = 0x0131#16 ∧
    (after (exec .adcTake { bench with adcData := 305#10 })).lfsr = 0x2CE9#16 := by decide

theorem test_adc_take_even : (after (exec .adcTake { bench with adcData := 512#10 })).reading = 0x0200#16 ∧
    (after (exec .adcTake { bench with adcData := 512#10 })).lfsr = 0xACE1#16 := by decide

theorem test_adc_pwrdn :
    (after (exec .adcPwrdn { bench with adcEn := true, adcIe := true, adcBusy := true, sensorPwr := true })).trace =
      [.adcEn false false, .sensor false] ∧
    (after (exec .adcPwrdn { bench with adcBusy := true })).adcBusy = false := by decide

theorem test_completion_wakes :
    let s := { bench with adcBusy := true, adcIe := true, lpState := .light }
    (s.adcComplete 305#10).convDone = true ∧ (s.adcComplete 305#10).lpState = .run ∧
    (s.adcComplete 305#10).adcData = 305#10 ∧ (s.adcComplete 305#10).trace = [.lp .run] := by decide

theorem test_completion_lost_when_disabled :
    ({ bench with adcBusy := true }.adcComplete 305#10).convDone = false ∧
    ({ bench with adcBusy := true }.adcComplete 305#10).adcBusy = false := by decide

/-! ## Unit PKT (95_test_vectors.md 2.3) -/

theorem test_pkt_seqinc_wraps : (after (exec .pktSeqinc { bench with seqNo := 0xFFFF#16 })).seqNo = 0x0000#16 ∧
    (after (exec .pktSeqinc { bench with seqNo := 0x00FF#16 })).seqNo = 0x0100#16 := by decide

theorem test_pkt_build_layout :
    ({ bench with seqNo := 1#16, reading := 0x0131#16 }.layPacket 3#8 1#8).pktBytes 7 =
      [3#8, 1#8, 0#8, 1#8, 0x31#8, 1#8, 0#8] := by decide

theorem test_pkt_cksum_instances :
    (({ bench with seqNo := 1#16, reading := 0x0131#16 }.layPacket 3#8 1#8).storeChecksum sum8).pktRead 6 = 0x37#8 ∧
    (({ bench with seqNo := 1#16, reading := 0x0131#16 }.layPacket 3#8 1#8).storeChecksum crc8).pktRead 6 = 0x88#8 := by
  decide +kernel

theorem test_checksum_check_values :
    crc8 [0x31#8, 0x32#8, 0x33#8, 0x34#8, 0x35#8, 0x36#8, 0x37#8, 0x38#8, 0x39#8] = 0xA1#8 ∧
    sum8 [0x31#8, 0x32#8, 0x33#8, 0x34#8, 0x35#8, 0x36#8, 0x37#8, 0x38#8, 0x39#8] = 0xDD#8 ∧
    crc8 [0x03#8, 0x00#8, 0x01#8, 0x01#8, 0x31#8, 0x01#8] = 0xCA#8 := by decide +kernel

theorem test_memory_stays_canonical :
    Memory.write (Memory.write (Memory.write [] 4 9#8) 1 5#8) 4 0#8 = [(1, 5#8)] := by decide

/-! ## Unit TX (95_test_vectors.md 2.4) -/

theorem test_manchester_vectors :
    manchester 0x7F#8 = [true, false, true, false, true, false, true, false, true, false, true, false, true, false,
      false, true] ∧
    manchester 0x31#8 = [true, false, false, true, false, true, false, true, true, false, true, false, false, true,
      false, true] := by decide

theorem test_tx_sendi : (after (exec (.txSendi 0x7F#8) bench)).txLevel = true ∧
    (after (exec (.txSendi 0xFF#8) bench)).txLevel = false ∧
    (after (exec (.txSendi 0x80#8) bench)).trace.length = 32 := by decide

theorem test_tx_sendp : (after (exec (.txSendp 4#8) { bench with pkt := [(4, 0x31#8)] })).trace =
      slotEvents (manchester 0x31#8) ∧
    isRefused .offsetOutsidePkt (exec (.txSendp 7#8) bench) = true := by decide

theorem test_tx_pwrup : (after (exec .txPwrup bench)).trace = [.radio true, .oe true, .wait .settle] ∧
    (after (exec .txPwrup bench)).line = .drivenLow := by decide

theorem test_tx_tail : (after (exec .txTail { bench with txLevel := true })).trace = [.level false, .wait .tail] ∧
    (after (exec .txTail bench)).txLevel = true := by decide

theorem test_tx_pwrdn :
    (after (exec .txPwrdn { bench with radioPwr := true, txOe := true, txLevel := true })).trace =
      [.radio false, .oe false, .level false] ∧
    (after (exec .txPwrdn { bench with radioPwr := true, txOe := true, txLevel := true })).line = .released := by decide

/-! ## Unit SLP and the alarm (95_test_vectors.md 2.5, 2.7) -/

theorem test_slp_calc : (after (exec .slpCalc { bench with rnd := 0xE4#8 })).sleepCnt = 121#8 ∧
    (after (exec .slpCalc { bench with rnd := 0xF8#8 })).sleepCnt = 117#8 := by decide

theorem test_slp_arm : (after (exec .slpArm { bench with alarmFlag := true })).alarmFlag = false ∧
    (after (exec .slpArm { bench with alarmFlag := true })).trace = [.almReset, .wakeEn true] := by decide

theorem test_slp_wait : (after (exec .slpWait { bench with sleepCnt := 2#8 })).sleepCnt = 1#8 ∧
    (after (exec .slpWait { bench with sleepCnt := 2#8 })).lpState = .deep ∧
    (after (exec .slpWait bench)).upc = 1#8 := by decide

theorem test_slp_disarm : (after (exec .slpDisarm { bench with wakeEn := true, alarmFlag := true })).wakeEn = false ∧
    (after (exec .slpDisarm { bench with wakeEn := true, alarmFlag := true })).alarmFlag = true := by decide

theorem test_alarm_tick : (alarmTick { bench with wakeEn := true, lpState := .deep }).trace = [.lp .run] ∧
    (alarmTick { bench with wakeEn := true, lpState := .deep }).alarmFlag = false ∧
    (alarmTick bench).alarmFlag = true := by decide

/-! ## Unit CTL and refusals (95_test_vectors.md 3.5) -/

theorem test_ctl_jmp : (after (exec (.ctlJmp 0x00#8) { bench with upc := 0x20#8 })).upc = 0x00#8 ∧
    isRefused .jumpOutsideText (exec (.ctlJmp 0x01#8) { bench with text := [0x0101#16] }) = true := by decide

theorem test_refused_fetches :
    isRefused .fetchBeyondText (step { bench with text := [0x3000#16], upc := 1#8, moves := [.seq] }) = true ∧
    isRefused (.illegalWord .immNotZero) (step { bench with text := [0x2001#16], moves := [.seq] }) = true := by
  decide

/-! ## Witnesses: for each statement with hypotheses, a state and operands that meet all of them, and one for
each clause at the edge of its range. -/

theorem witness_SequencerPerformsTheDecodedWord_performs :
    let s := { bench with moves := [.seq], upc := 0x20#8 }
    s.nextMove = .seq ∧ s.lpState = .run ∧ s.text[s.upc.toNat]? = some 0x0100#16 ∧
      decode 0x0100#16 = .ok (.ctlJmp 0x00#8) := by decide

theorem witness_SequencerPerformsTheDecodedWord_beyond :
    let s := { bench with moves := [.seq], upc := 0x21#8 }
    s.nextMove = .seq ∧ s.lpState = .run ∧ s.text.length ≤ s.upc.toNat := by decide

theorem witness_SequencerPerformsTheDecodedWord_illegal :
    let s := { bench with moves := [.seq], text := [0x2001#16] }
    s.nextMove = .seq ∧ s.lpState = .run ∧ s.text[s.upc.toNat]? = some 0x2001#16 ∧
      decode 0x2001#16 = .error .immNotZero := by decide

theorem witness_SequencerPerformsTheDecodedWord_held :
    let s := { bench with moves := [.seq], lpState := .deep }
    s.nextMove = .seq ∧ s.lpState ≠ .run := by decide

theorem witness_PowerLossLeavesTheResetState :
    ({ bench with moves := [.powerLoss, .seq], upc := 5#8 } : State).nextMove = .powerLoss := by decide

theorem witness_LegalWordsEncodeBack : decode 0x417F#16 = .ok (.txSendi 0x7F#8) := by decide

theorem witness_LegalWordsAreTheRowsOfTheMap :
    (Instr.txSendi 0#8).row ∈ opcodeTable ∧ (Instr.txSendi 0#8).row.selects 0x417F#16 = true ∧
      decode 0x417F#16 = .ok (.txSendi 0x7F#8) := by decide

theorem witness_JumpGoesToItsTargetInsideTheText :
    (0x20#8).toNat < bench.text.length ∧ bench.text.length ≤ (0x21#8).toNat := by decide

theorem witness_JumpGoesToItsTargetInsideTheText_others :
    (∀ imm, Instr.adcWait ≠ .ctlJmp imm) ∧ ∃ t, exec .adcWait bench = .next t := ⟨by decide, _, rfl⟩

theorem witness_LfsrNextHasTheClosedForm : (0xACE1#16 : Word) ≠ 0#16 := by decide

theorem witness_LfsrMixSwapsAndKeepsOnes : (0x8000#16 : Word) ≠ 0#16 ∧ (0xFF#8).getLsbD 0 = true := by decide

theorem witness_LfsrStepIsABijectionOffZero : (0x59C3#16 : Word) ≠ 0#16 ∧ (0xACE1#16 : Word) ≠ 0#16 := by decide

theorem witness_LfsrStatesFormOneCycle : (0x0001#16 : Word) ≠ 0#16 ∧ 0 < 65534 ∧ 65534 < 65535 := by decide

theorem witness_LfsrNeverFallsToZero :
    ∃ t, step { bench with moves := [.seq], text := [0x1000#16] } = .next t ∧
      ({ bench with moves := [.seq], text := [0x1000#16] } : State).nextMove ≠ .powerLoss ∧ bench.lfsr ≠ 0#16 :=
  ⟨_, rfl, by decide, by decide⟩

theorem witness_ConversionStartsIfEnabled : ({ bench with adcEn := true } : State).adcEn = true ∧
    bench.adcEn = false := by decide

theorem witness_ConversionWaitRechecksTheFlag : ({ bench with convDone := true } : State).convDone = true ∧
    bench.convDone = false := by decide

theorem witness_CompletedConversionDeliversItsSignal_running :
    let s := { bench with moves := [.adcDone 305#10], adcBusy := true, adcIe := true }
    s.nextMove = .adcDone 305#10 ∧ s.adcBusy = true ∧ s.adcIe = true ∧ s.lpState = .run := by decide

theorem witness_CompletedConversionDeliversItsSignal_held :
    let s := { bench with moves := [.adcDone 305#10], adcBusy := true, adcIe := true, lpState := .light }
    s.nextMove = .adcDone 305#10 ∧ s.adcBusy = true ∧ s.adcIe = true ∧ s.lpState ≠ .run := by decide

theorem witness_CompletedConversionDeliversItsSignal_lost :
    let s := { bench with moves := [.adcDone 305#10], adcBusy := true }
    s.nextMove = .adcDone 305#10 ∧ s.adcBusy = true ∧ s.adcIe = false := by decide

theorem witness_DisabledMovesChangeNothing :
    (({ bench with moves := [.adcDone 305#10] } : State).nextMove = .adcDone 305#10 ∧ bench.adcBusy = false) ∧
    (({ bench with moves := [.alarmDeliver] } : State).nextMove = .alarmDeliver ∧ bench.wakeEn = false) ∧
    ({ bench with moves := [.seq], lpState := .light } : State).lpState ≠ .run := by decide

theorem witness_OnlyBuildAndChecksumStoreBytes : Instr.adcDrop ≠ .pktBuild ∧ Instr.adcDrop ≠ .pktCksum ∧
    ∃ t, exec .adcDrop bench = .next t := ⟨by decide, by decide, _, rfl⟩

theorem witness_BuildLaysOutTheRecord_outside : Config.pktLen ≤ 7 := by decide

theorem witness_ChecksumCoversTheBytesBeforeIt_elsewhere : 5 ≠ Config.pktLen - 1 ∧ 7 ≠ Config.pktLen - 1 := by decide

theorem witness_PacketByteIsSerialized : (6#8).toNat < Config.pktLen ∧ Config.pktLen ≤ (7#8).toNat := by decide

theorem witness_TransmitSendsTheFrame : bench.radioPwr = false ∧ bench.txOe = false ∧ bench.txLevel = false := by
  decide

theorem witness_SleepWaitEntersDeepCountTimes :
    let s := { bench with sleepCnt := 2#8, wakeEn := true }
    s.sleepCnt ≠ 0#8 ∧ s.lpState = .run ∧ s.wakeEn = true ∧ s.alarmFlag = false ∧ bench.sleepCnt = 0#8 := by decide

theorem witness_AlarmExpiryIsTakenWhenEnabled_expiry :
    ({ bench with moves := [.alarmExpire] } : State).nextMove = .alarmExpire := by decide

theorem witness_AlarmExpiryIsTakenWhenEnabled_held :
    let s := { bench with moves := [.alarmDeliver], wakeEn := true, alarmFlag := true, lpState := .deep }
    s.nextMove = .alarmDeliver ∧ s.wakeEn = true ∧ s.alarmFlag = true ∧ s.lpState ≠ .run := by decide

theorem witness_AlarmExpiryIsTakenWhenEnabled_running :
    let s := { bench with moves := [.alarmDeliver], wakeEn := true, alarmFlag := true }
    s.nextMove = .alarmDeliver ∧ s.wakeEn = true ∧ s.alarmFlag = true ∧ s.lpState = .run := by decide

theorem witness_CollaboratorsTouchOnlyTheirState :
    let s := { bench with moves := [.alarmExpire] }
    s.nextMove ≠ .seq ∧ s.nextMove ≠ .powerLoss := by decide

theorem witness_OnlyTheirWritersChangeDataRegisters :
    (∃ t, exec .lfsrStep bench = .next t ∧ t.lfsr ≠ bench.lfsr) ∧
    (∃ t, exec .lfsrNext bench = .next t ∧ t.rnd ≠ bench.rnd) ∧
    (∃ t, exec .pktSeqinc bench = .next t ∧ t.seqNo ≠ bench.seqNo) ∧
    (∃ t, exec .adcTake { bench with adcData := 305#10 } = .next t ∧ t.reading ≠ bench.reading) ∧
    (∃ t, exec .slpCalc bench = .next t ∧ t.sleepCnt ≠ bench.sleepCnt) :=
  ⟨⟨_, rfl, by decide⟩, ⟨_, rfl, by decide⟩, ⟨_, rfl, by decide⟩, ⟨_, rfl, by decide⟩, ⟨_, rfl, by decide⟩⟩

theorem witness_OnlyTheirWritersChangeControlBits_flags :
    (∃ t, exec .adcStart { bench with convDone := true, adcEn := true } = .next t ∧ t.convDone ≠ true ∧
      t.adcBusy ≠ bench.adcBusy) ∧
    (∃ t, exec .slpArm { bench with alarmFlag := true } = .next t ∧ t.alarmFlag ≠ true ∧ t.wakeEn ≠ bench.wakeEn) ∧
    (∃ t, exec .adcPwrup bench = .next t ∧ t.sensorPwr ≠ bench.sensorPwr) ∧
    (∃ t, exec .adcCfg bench = .next t ∧ t.adcEn ≠ bench.adcEn ∧ t.adcIe ≠ bench.adcIe) :=
  ⟨⟨_, rfl, by decide, by decide⟩, ⟨_, rfl, by decide, by decide⟩, ⟨_, rfl, by decide⟩, ⟨_, rfl, by decide, by decide⟩⟩

theorem witness_OnlyTheirWritersChangeControlBits_line :
    (∃ t, exec .txPwrup bench = .next t ∧ t.radioPwr ≠ bench.radioPwr ∧ t.txOe ≠ bench.txOe) ∧
    (∃ t, exec .txTail bench = .next t ∧ t.txLevel ≠ bench.txLevel) ∧
    (∃ t, exec .adcWait bench = .next t ∧ t.lpState ≠ bench.lpState) ∧
    (∃ t, exec (.txSendi 0#8) { bench with txSr := 1#8 } = .next t ∧ t.txSr ≠ 1#8) :=
  ⟨⟨_, rfl, by decide, by decide⟩, ⟨_, rfl, by decide⟩, ⟨_, rfl, by decide⟩, ⟨_, rfl, by decide⟩⟩

/-- The configuration a chip powers on with need not be the three constants. -/
theorem witness_OnlyTheirWritersChangeControlBits_config :
    ∃ t, exec .adcCfg { bench with adcCfg := ⟨Config.adcRef + 1, 0, 0⟩ } = .next t ∧
      t.adcCfg ≠ ⟨Config.adcRef + 1, 0, 0⟩ :=
  ⟨_, rfl, fun h => by
    have : Config.adcRef = Config.adcRef + 1 := congrArg AdcConfig.ref h
    omega⟩

theorem witness_OperationsAdvanceOrHold : (∃ t, exec .adcWait bench = .next t ∧ t.upc = bench.upc) ∧
    (∃ t, exec .adcDrop bench = .next t ∧ t.upc = bench.upc + 1#8) ∧
    (∃ t, exec (.ctlJmp 0x20#8) bench = .next t ∧ t.upc = 0x20#8) :=
  ⟨⟨_, rfl, by decide⟩, ⟨_, rfl, by decide⟩, ⟨_, rfl, by decide⟩⟩

theorem witness_ProgramTextNeverChanges : ∃ t, step { bench with moves := [.seq] } = .next t := ⟨_, rfl⟩

theorem witness_TraceOnlyGrows : ∃ t, step { bench with moves := [.seq] } = .next t ∧
    ({ bench with moves := [.seq] } : State).nextMove ≠ .powerLoss := ⟨_, rfl, by decide⟩

theorem witness_OnlyWaitsSuspendAndOnlySignalsWake_suspends :
    ∃ t, step { bench with moves := [.seq], upc := 0x03#8 } = .next t ∧ bench.lpState = .run ∧ t.lpState ≠ .run :=
  ⟨_, rfl, by decide, by decide⟩

theorem witness_OnlyWaitsSuspendAndOnlySignalsWake_sleeps :
    ∃ t, step { bench with moves := [.seq], upc := 0x1E#8, sleepCnt := 1#8 } = .next t ∧ bench.lpState = .run ∧
      t.lpState ≠ .run :=
  ⟨_, rfl, by decide, by decide⟩

theorem witness_OnlyWaitsSuspendAndOnlySignalsWake_completion :
    let s := { bench with moves := [.adcDone 0#10], adcBusy := true, adcIe := true, lpState := .light }
    ∃ t, step s = .next t ∧ s.lpState ≠ .run ∧ t.lpState ≠ s.lpState := ⟨_, rfl, by decide, by decide⟩

theorem witness_OnlyWaitsSuspendAndOnlySignalsWake_wakes :
    let s := { bench with moves := [.alarmDeliver], wakeEn := true, alarmFlag := true, lpState := .deep }
    ∃ t, step s = .next t ∧ s.lpState ≠ .run ∧ t.lpState ≠ s.lpState := ⟨_, rfl, by decide, by decide⟩

theorem witness_TheHangPersists :
    Hung { bench with moves := [.alarmExpire], lpState := .light } ∧
    ({ bench with moves := [.alarmExpire], lpState := .light } : State).nextMove ≠ .powerLoss :=
  ⟨⟨by decide, by decide, by decide⟩, by decide⟩

/-- A built packet, a captured sample, a conversion in progress. -/
def inUse : State :=
  { bench with
    pkt := [(0, 3#8), (1, 1#8), (6, 0x37#8)], reading := 0x03FF#16, adcEn := true, adcIe := true, adcBusy := true
    moves := [.seq], text := [0x3100#16] }

theorem witness_EveryStepKeepsTheDataInvariant : DataInv inUse ∧ ∃ t, step inUse = .next t :=
  ⟨⟨by decide, by decide, by decide, by decide, by decide, by decide⟩, _, rfl⟩

theorem witness_ControlRomNeverRefuses :
    RomInv { bench with upc := 0x03#8, sensorPwr := true, adcEn := true, adcIe := true, adcBusy := true, lpState := .light } :=
  ⟨by decide, by decide, by decide, by decide, by decide, by decide, by decide, by decide, by decide, by decide,
    by decide, by decide⟩

theorem witness_SamplingKeepsOnlyTheSecondConversion : LoopStart bench :=
  ⟨by decide, by decide, by decide, by decide, by decide, by decide, by decide⟩

/-- A boundary between two iterations, not the one at reset. -/
theorem witness_OneIterationOfTheMainLoop :
    LoopStart { bench with lfsr := 0xE965#16, seqNo := 1#16, reading := 0x0131#16, convDone := true, alarmFlag := true } :=
  ⟨by decide, by decide, by decide, by decide, by decide, by decide, by decide⟩

end Sys2Proof.Tests
end

section
/-! SUPPORT. What each operation does, as a relation with one constructor per way it can complete or hold. A
constructor lists the fields written; every other field is that of the state before. -/

namespace Sys2Proof.Machine

/-- `Performs i s t`: operation `i`, performed in `s`, answers the next state `t`. -/
inductive Performs : Instr → State → State → Prop where
  | ctlJmp (s : State) (imm : Byte) (inside : imm.toNat < s.text.length) :
      Performs (.ctlJmp imm) s { s with upc := imm }
  | lfsrStep (s : State) :
      Performs .lfsrStep s { s with upc := s.upc + 1#8, lfsr := lfsrStep Config.lfsrReseed s.lfsr }
  | lfsrNext (s : State) :
      Performs .lfsrNext s { s with
        upc := s.upc + 1#8
        lfsr := lfsrNext Config.lfsrReseed s.lfsr
        rnd := (lfsrNext Config.lfsrReseed s.lfsr).extractLsb' 0 8 }
  | lfsrMix (s : State) (imm : Byte) :
      Performs (.lfsrMix imm) s { s with upc := s.upc + 1#8, lfsr := lfsrMix s.lfsr imm }
  | adcPwrup (s : State) :
      Performs .adcPwrup s { s with
        upc := s.upc + 1#8, sensorPwr := true, trace := s.trace ++ [.sensor true] }
  | adcCfg (s : State) :
      Performs .adcCfg s { s with
        upc := s.upc + 1#8, adcCfg := adcConfigured, adcEn := true, adcIe := true
        trace := s.trace ++ [.adcCfg adcConfigured, .adcEn true true] }
  | adcStart (s : State) :
      Performs .adcStart s { s with
        upc := s.upc + 1#8, convDone := false, adcBusy := s.adcBusy || s.adcEn
        trace := s.trace ++ [.adcStart] }
  | adcWaitCompletes (s : State) (done : s.convDone = true) :
      Performs .adcWait s { s with upc := s.upc + 1#8 }
  | adcWaitHolds (s : State) (pending : s.convDone = false) :
      Performs .adcWait s { s with lpState := .light, trace := s.trace ++ [.lp .light] }
  | adcDrop (s : State) : Performs .adcDrop s { s with upc := s.upc + 1#8 }
  | adcTake (s : State) :
      Performs .adcTake s { s with
        upc := s.upc + 1#8
        reading := sampleReading s.adcData
        lfsr := lfsrMix s.lfsr (sampleLowByte s.adcData) }
  | adcPwrdn (s : State) :
      Performs .adcPwrdn s { s with
        upc := s.upc + 1#8, adcEn := false, adcIe := false, adcBusy := false, sensorPwr := false
        trace := s.trace ++ [.adcEn false false] ++ [.sensor false] }
  | pktSeqinc (s : State) :
      Performs .pktSeqinc s { s with upc := s.upc + 1#8, seqNo := s.seqNo + 1#16 }
  | pktBuild (s : State) :
      Performs .pktBuild s { s with
        upc := s.upc + 1#8, pkt := (s.layPacket Config.nodeId Config.typeTemp).pkt }
  | pktCksum (s : State) :
      Performs .pktCksum s { s with upc := s.upc + 1#8, pkt := (s.storeChecksum Config.checksum).pkt }
  | txPwrup (s : State) :
      Performs .txPwrup s { s with
        upc := s.upc + 1#8, radioPwr := true, txOe := true
        trace := s.trace ++ [.radio true] ++ [.oe true] ++ [.wait .settle] }
  | txSendi (s : State) (imm : Byte) :
      Performs (.txSendi imm) s { s with
        upc := s.upc + 1#8, txLevel := !imm.getLsbD 7, txSr := 0x00#8, txBitcnt := 0#3, txHalf := false
        trace := s.trace ++ slotEvents (manchester imm) }
  | txSendp (s : State) (imm : Byte) (inside : imm.toNat < Config.pktLen) :
      Performs (.txSendp imm) s { s with
        upc := s.upc + 1#8, txLevel := !(s.pktRead imm.toNat).getLsbD 7
        txSr := 0x00#8, txBitcnt := 0#3, txHalf := false
        trace := s.trace ++ slotEvents (manchester (s.pktRead imm.toNat)) }
  | txTail (s : State) :
      Performs .txTail s { s with
        upc := s.upc + 1#8, txLevel := !s.txLevel
        trace := s.trace ++ [.level (!s.txLevel), .wait .tail] }
  | txPwrdn (s : State) :
      Performs .txPwrdn s { s with
        upc := s.upc + 1#8, radioPwr := false, txOe := false, txLevel := false
        trace := s.trace ++ [.radio false] ++ [.oe false] ++ [.level false] }
  | slpCalc (s : State) :
      Performs .slpCalc s { s with upc := s.upc + 1#8, sleepCnt := sleepIterations s.rnd }
  | slpArm (s : State) :
      Performs .slpArm s { s with
        upc := s.upc + 1#8, alarmFlag := false, wakeEn := true
        trace := s.trace ++ [.almReset, .wakeEn true] }
  | slpWaitCompletes (s : State) (zero : s.sleepCnt = 0x00#8) :
      Performs .slpWait s { s with upc := s.upc + 1#8 }
  | slpWaitHolds (s : State) (left : s.sleepCnt ≠ 0x00#8) :
      Performs .slpWait s { s with
        sleepCnt := s.sleepCnt - 1#8, lpState := .deep, trace := s.trace ++ [.lp .deep] }
  | slpDisarm (s : State) :
      Performs .slpDisarm s { s with
        upc := s.upc + 1#8, wakeEn := false, trace := s.trace ++ [.wakeEn false] }

/-- Laying the packet writes only `pkt`. -/
theorem State.layPacket_eq (s : State) (nodeId typeTag : Byte) :
    s.layPacket nodeId typeTag = { s with pkt := (s.layPacket nodeId typeTag).pkt } := by
  simp only [State.layPacket, State.pktWrite]

/-- Storing the checksum writes only `pkt`. -/
theorem State.storeChecksum_eq (s : State) (f : List Byte → Byte) :
    s.storeChecksum f = { s with pkt := (s.storeChecksum f).pkt } := by
  simp only [State.storeChecksum, State.pktWrite]

/-- Each constructor is an equation about `exec`. -/
theorem Performs.exec_eq {i : Instr} {s t : State} (h : Performs i s t) : exec i s = .next t := by
  cases h
  case ctlJmp imm inside =>
    simp [exec, execCtlJmp, jumpTarget_eq_some.mpr ⟨inside, rfl⟩]
  case adcWaitCompletes done => exact if_pos done
  case adcWaitHolds pending => exact if_neg (by simp [pending])
  case txSendi imm => simp [exec, execTxSendi, State.sendByte_eq, State.advance]
  case txSendp imm inside =>
    simp [exec, execTxSendp, pktOffset_eq_some.mpr ⟨inside, rfl⟩, State.sendByte_eq, State.advance]
  case slpWaitCompletes zero => exact if_pos zero
  case slpWaitHolds left => exact if_neg left
  case pktBuild => exact congrArg (fun u : State => (.next u.advance : Result)) (s.layPacket_eq _ _)
  case pktCksum => exact congrArg (fun u : State => (.next u.advance : Result)) (s.storeChecksum_eq _)
  all_goals rfl

/-- `exec` is a function: if it answers `t` and a constructor says `u`, then `t` is `u`. -/
theorem Performs.of_exec {i : Instr} {s t u : State} (h : exec i s = .next t) (hu : Performs i s u) :
    Performs i s t := by
  have same : Host.Outcome.next t = .next u := h.symm.trans hu.exec_eq
  cases same
  exact hu

/-- What `exec` answers is exactly what the relation says. -/
theorem exec_eq_next_iff {i : Instr} {s t : State} : exec i s = .next t ↔ Performs i s t := by
  refine ⟨fun h => ?_, Performs.exec_eq⟩
  cases i
  case ctlJmp imm =>
    by_cases inside : imm.toNat < s.text.length
    · exact .of_exec h (.ctlJmp s imm inside)
    · simp [exec, execCtlJmp, jumpTarget, inside] at h
  case adcWait =>
    cases hd : s.convDone
    · exact .of_exec h (.adcWaitHolds s hd)
    · exact .of_exec h (.adcWaitCompletes s hd)
  case txSendp imm =>
    by_cases inside : imm.toNat < Config.pktLen
    · exact .of_exec h (.txSendp s imm inside)
    · simp [exec, execTxSendp, pktOffset, inside] at h
  case slpWait =>
    by_cases zero : s.sleepCnt = 0x00#8
    · exact .of_exec h (.slpWaitCompletes s zero)
    · exact .of_exec h (.slpWaitHolds s zero)
  all_goals exact .of_exec h (by constructor)

end Sys2Proof.Machine
end

section
/-! SUPPORT. An operation and a move of any agent but ENV only append to the trace (10_state.md R44). -/

namespace Sys2Proof.Machine

/-- An operation only appends events. -/
theorem exec_trace_prefix {i : Instr} {s t : State} (h : exec i s = .next t) : s.trace <+: t.trace := by
  cases exec_eq_next_iff.mp h <;> simp

/-- A wake only appends events. -/
theorem State.wake_trace_prefix (s : State) : s.trace <+: s.wake.trace := by
  rw [State.wake_trace]
  split
  · exact List.prefix_rfl
  · exact List.prefix_append _ _

/-- A move of SEQ only appends events. -/
theorem seqStep_trace_prefix {s t : State} (h : seqStep s = .next t) : s.trace <+: t.trace := by
  obtain ⟨_, rfl⟩ | ⟨_, w, i, _, _, hi⟩ := seqStep_next h
  · exact List.prefix_rfl
  · exact exec_trace_prefix hi

/-- A move of ADCAGENT only appends events. -/
theorem State.adcComplete_trace_prefix (s : State) (d : Sample) : s.trace <+: (s.adcComplete d).trace := by
  obtain ⟨_, he⟩ | ⟨_, _, he⟩ | ⟨_, _, he⟩ := s.adcComplete_cases d
  · rw [he]
  · rw [he]
  · rw [he]
    exact State.wake_trace_prefix { s with adcBusy := false, adcData := d, convDone := true }

/-- A delivery move of ALARMAGENT only appends events. -/
theorem State.alarmDeliver_trace_prefix (s : State) : s.trace <+: s.alarmDeliver.trace := by
  obtain ⟨_, he⟩ | ⟨_, _, he⟩ := s.alarmDeliver_cases
  · rw [he]
  · rw [he]
    exact State.wake_trace_prefix { s with alarmFlag := false }

end Sys2Proof.Machine
end

section
/-! PROOFS. The statements of 10_state.md: who writes a field, where `upc` goes, and that the trace grows. -/

namespace Sys2Proof.Proofs

open Sys2Proof Sys2Proof.Machine

/-- Settles O48: a constructor of `Performs` that lists a data register belongs to an operation of its row. -/
theorem onlyTheirWritersChangeDataRegisters : Obligations.OnlyTheirWritersChangeDataRegisters := by
  intro i s t h
  cases exec_eq_next_iff.mp h <;> simp

/-- Settles O49: a constructor of `Performs` that lists a flag, a control bit or hidden state belongs to an
operation of its row, and none lists `adcData`. -/
theorem onlyTheirWritersChangeControlBits : Obligations.OnlyTheirWritersChangeControlBits := by
  intro i s t h
  cases exec_eq_next_iff.mp h <;> simp

/-- Settles O50: the jump, the two holds, and otherwise `upc + 1`. -/
theorem operationsAdvanceOrHold : Obligations.OperationsAdvanceOrHold := by
  intro i s t h
  cases exec_eq_next_iff.mp h
  case ctlJmp imm _ => exact .inl ⟨imm, rfl, rfl⟩
  case adcWaitHolds => exact .inr (.inr (.inl ⟨rfl, rfl, rfl⟩))
  case slpWaitHolds => exact .inr (.inr (.inr ⟨rfl, rfl, rfl⟩))
  all_goals exact .inr (.inl rfl)

/-- Settles O52: each agent but ENV only appends events, and using up the move does not touch the trace. -/
theorem traceOnlyGrows : Obligations.TraceOnlyGrows := by
  intro s t h noLoss
  rw [← s.popMove_trace]
  obtain ⟨_, hq⟩ | ⟨d, _, rfl⟩ | ⟨_, rfl⟩ | ⟨_, rfl⟩ | ⟨loss, _⟩ := step_next h
  · exact seqStep_trace_prefix hq
  · exact State.adcComplete_trace_prefix _ d
  · exact List.prefix_rfl
  · exact State.alarmDeliver_trace_prefix _
  · exact absurd loss noLoss

end Sys2Proof.Proofs
end

section
/-! SUPPORT. What the moves of the two collaborators leave alone (20_memory.md R69), and that no agent's move
writes the program text. -/

namespace Sys2Proof.Machine

/-- `CollaboratorFrame s t`: `t` is `s` but for the fields ADCAGENT and ALARMAGENT may write. -/
inductive CollaboratorFrame (s : State) : State → Prop where
  | written (convDone alarmFlag adcBusy : Bool) (adcData : Sample) (lpState : LpState) (trace : List Event) :
      CollaboratorFrame s { s with convDone, alarmFlag, adcBusy, adcData, lpState, trace }

/-- A state is in its own frame. -/
theorem CollaboratorFrame.refl (s : State) : CollaboratorFrame s s :=
  .written s.convDone s.alarmFlag s.adcBusy s.adcData s.lpState s.trace

/-- The frame as an equation, each written field read off the later state. -/
theorem CollaboratorFrame.eq {s t : State} (h : CollaboratorFrame s t) :
    t = { s with
      convDone := t.convDone, alarmFlag := t.alarmFlag, adcBusy := t.adcBusy, adcData := t.adcData
      lpState := t.lpState, trace := t.trace } := by
  cases h; rfl

/-- A wake stays in the frame. -/
theorem CollaboratorFrame.wake {s u : State} (h : CollaboratorFrame s u) : CollaboratorFrame s u.wake := by
  obtain ⟨_, he⟩ | ⟨_, he⟩ := u.wake_cases <;> rw [he]
  · exact h
  · cases h; exact .written ..

/-- A move of ADCAGENT stays in the frame. -/
theorem State.adcComplete_frame (s : State) (d : Sample) : CollaboratorFrame s (s.adcComplete d) := by
  obtain ⟨_, he⟩ | ⟨_, _, he⟩ | ⟨_, _, he⟩ := s.adcComplete_cases d <;> rw [he]
  · exact .refl s
  · exact .written ..
  · exact .wake (.written ..)

/-- An expiry stays in the frame. -/
theorem State.alarmExpire_frame (s : State) : CollaboratorFrame s s.alarmExpire := .written ..

/-- A delivery move of ALARMAGENT stays in the frame. -/
theorem State.alarmDeliver_frame (s : State) : CollaboratorFrame s s.alarmDeliver := by
  obtain ⟨_, he⟩ | ⟨_, _, he⟩ := s.alarmDeliver_cases <;> rw [he]
  · exact .refl s
  · exact .wake (.written ..)

/-- After a move of ADCAGENT no conversion is in progress. -/
@[simp] theorem State.adcComplete_adcBusy (s : State) (d : Sample) : (s.adcComplete d).adcBusy = false := by
  obtain ⟨idle, he⟩ | ⟨_, _, he⟩ | ⟨_, _, he⟩ := s.adcComplete_cases d <;> rw [he]
  · exact idle
  · exact State.takeConv_adcBusy _

/-- A delivery move of ALARMAGENT does not touch the converter. -/
@[simp] theorem State.alarmDeliver_adcBusy (s : State) : s.alarmDeliver.adcBusy = s.adcBusy := by
  obtain ⟨_, he⟩ | ⟨_, _, he⟩ := s.alarmDeliver_cases <;> rw [he]
  exact s.takeAlarm_adcBusy

/-- The program text is outside the frame. -/
theorem CollaboratorFrame.text_eq {s t : State} (h : CollaboratorFrame s t) : t.text = s.text := by
  cases h; rfl

/-- No operation writes the program text. -/
theorem exec_text {i : Instr} {s t : State} (h : exec i s = .next t) : t.text = s.text := by
  cases exec_eq_next_iff.mp h <;> rfl

/-- A move of SEQ does not write the program text. -/
theorem seqStep_text {s t : State} (h : seqStep s = .next t) : t.text = s.text := by
  obtain ⟨_, rfl⟩ | ⟨_, w, i, _, _, hi⟩ := seqStep_next h
  · rfl
  · exact exec_text hi

end Sys2Proof.Machine
end

section
/-! SUPPORT. The packet writers keep the buffer canonical and inside `PKT_LEN` (20_memory.md R60), and every
operation and every agent's move keeps the data invariant. -/

namespace Sys2Proof.Machine

open Sys2Proof.Safety

/-- Laying the packet keeps the canonical form. -/
theorem State.layPacket_wf (s : State) (nodeId typeTag : Byte) (h : Memory.wf s.pkt = true) :
    Memory.wf (s.layPacket nodeId typeTag).pkt = true := by
  simp only [State.layPacket, State.pktWrite_pkt]
  iterate 5 apply Memory.wf_writeLE
  exact h

/-- Laying the packet lists no offset outside `pkt`. -/
theorem State.layPacket_inPkt (s : State) (nodeId typeTag : Byte) (h : Memory.inPkt s.pkt = true) :
    Memory.inPkt (s.layPacket nodeId typeTag).pkt = true := by
  simp only [State.layPacket, State.pktWrite_pkt]
  iterate 5 refine Memory.inPkt_writeLE _ _ _ _ (by decide) ?_
  exact h

/-- Storing the checksum keeps the canonical form. -/
theorem State.storeChecksum_wf (s : State) (f : List Byte → Byte) (h : Memory.wf s.pkt = true) :
    Memory.wf (s.storeChecksum f).pkt = true :=
  Memory.wf_writeLE _ _ _ _ h

/-- Storing the checksum lists no offset outside `pkt`. -/
theorem State.storeChecksum_inPkt (s : State) (f : List Byte → Byte) (h : Memory.inPkt s.pkt = true) :
    Memory.inPkt (s.storeChecksum f).pkt = true :=
  Memory.inPkt_writeLE _ _ _ _ (by decide) h

/-- Using up a move keeps the data invariant. -/
theorem State.popMove_dataInv {s : State} (h : DataInv s) : DataInv s.popMove := by
  rw [s.popMove_eq]
  exact { h with }

/-- Every operation keeps the data invariant: of its fields only those of the cases named here are written. -/
theorem exec_dataInv {i : Instr} {s t : State} (h : DataInv s) (hx : exec i s = .next t) : DataInv t := by
  cases exec_eq_next_iff.mp hx
  case adcCfg => exact { h with enablesAgree := rfl, busyEnabled := fun _ => rfl }
  case adcStart =>
    exact { h with busyEnabled := fun hb => (Bool.or_eq_true_iff.mp hb).elim h.busyEnabled id }
  case adcTake =>
    have fits : (sampleReading s.adcData).toNat < 2 ^ Config.adcWidth := by
      rw [sampleReading_toNat]
      exact s.adcData.isLt
    exact { h with readingFits := fits }
  case adcPwrdn => exact { h with enablesAgree := rfl, busyEnabled := id }
  case pktBuild =>
    exact { h with
      pktWf := s.layPacket_wf _ _ h.pktWf
      pktInside := s.layPacket_inPkt _ _ h.pktInside }
  case pktCksum =>
    exact { h with
      pktWf := s.storeChecksum_wf _ h.pktWf
      pktInside := s.storeChecksum_inPkt _ h.pktInside }
  case txSendi => exact { h with serializerRests := ⟨rfl, rfl, rfl⟩ }
  case txSendp => exact { h with serializerRests := ⟨rfl, rfl, rfl⟩ }
  all_goals exact { h with }

/-- A move of SEQ keeps the data invariant. -/
theorem seqStep_dataInv {s t : State} (h : DataInv s) (hq : seqStep s = .next t) : DataInv t := by
  obtain ⟨_, rfl⟩ | ⟨_, w, i, _, _, hi⟩ := seqStep_next hq
  · exact h
  · exact exec_dataInv h hi

/-- A collaborator's move that starts no conversion keeps the data invariant. -/
theorem CollaboratorFrame.dataInv {s t : State} (hf : CollaboratorFrame s t)
    (startsNone : t.adcBusy = true → s.adcBusy = true) (h : DataInv s) : DataInv t := by
  cases hf
  exact { h with busyEnabled := fun hb => h.busyEnabled (startsNone hb) }

/-- A power loss establishes the data invariant, whatever held before. -/
theorem State.powerLoss_dataInv (s : State) : DataInv s.powerLoss where
  pktWf := rfl
  pktInside := rfl
  readingFits := Nat.two_pow_pos _
  enablesAgree := rfl
  busyEnabled := id
  serializerRests := ⟨rfl, rfl, rfl⟩

end Sys2Proof.Machine
end

section
/-! PROOFS. The statements of 20_memory.md: the data invariant, and who writes the packet, the collaborators'
fields and the text. -/

namespace Sys2Proof.Proofs

open Sys2Proof Sys2Proof.Machine

/-- Settles O55: each agent's move keeps the invariant, the collaborators because they never start a conversion. -/
theorem everyStepKeepsTheDataInvariant : Obligations.EveryStepKeepsTheDataInvariant := by
  intro s t h hs
  have hp := State.popMove_dataInv h
  obtain ⟨_, hq⟩ | ⟨d, _, rfl⟩ | ⟨_, rfl⟩ | ⟨_, rfl⟩ | ⟨_, rfl⟩ := step_next hs
  · exact seqStep_dataInv hp hq
  · exact (State.adcComplete_frame _ d).dataInv (by simp) hp
  · exact (State.alarmExpire_frame _).dataInv id hp
  · exact (State.alarmDeliver_frame _).dataInv (by simp) hp
  · exact State.powerLoss_dataInv _

/-- Settles O31: of the constructors of `Performs`, only those of the two excluded operations list `pkt`. -/
theorem onlyBuildAndChecksumStoreBytes : Obligations.OnlyBuildAndChecksumStoreBytes := by
  intro i s t notBuild notCksum h a
  cases exec_eq_next_iff.mp h
  case pktBuild => exact absurd rfl notBuild
  case pktCksum => exact absurd rfl notCksum
  all_goals rfl

/-- Settles O47: the three moves of the collaborators, each in the frame. -/
theorem collaboratorsTouchOnlyTheirState : Obligations.CollaboratorsTouchOnlyTheirState := by
  intro s notSeq notLoss
  unfold step
  cases hm : s.nextMove with
  | seq => exact absurd hm notSeq
  | adcDone d => exact ⟨_, rfl, (State.adcComplete_frame _ d).eq⟩
  | alarmExpire => exact ⟨_, rfl, (State.alarmExpire_frame _).eq⟩
  | alarmDeliver => exact ⟨_, rfl, (State.alarmDeliver_frame _).eq⟩
  | powerLoss => exact absurd hm notLoss

/-- Settles O51: no operation writes the text, it is outside the collaborators' frame, and a power loss keeps it. -/
theorem programTextNeverChanges : Obligations.ProgramTextNeverChanges := by
  intro s t h
  rw [← s.popMove_text]
  obtain ⟨_, hq⟩ | ⟨d, _, rfl⟩ | ⟨_, rfl⟩ | ⟨_, rfl⟩ | ⟨_, rfl⟩ := step_next h
  · exact seqStep_text hq
  · exact (State.adcComplete_frame _ d).text_eq
  · exact (State.alarmExpire_frame _).text_eq
  · exact (State.alarmDeliver_frame _).text_eq
  · rfl

end Sys2Proof.Proofs
end

section
/-! SUPPORT. What a word's fields decode to, said once, and that decoding inverts encoding (30_encoding.md R80,
R82, R83). -/

namespace Sys2Proof

/-- Unit `u` has no function `f`: the first two clauses of 30_encoding.md R83. -/
def FnReserved (u f : Nat) : Prop :=
  6 ≤ u ∨ (u = 0 ∧ f ≠ 1) ∨ (u = 1 ∧ 2 < f) ∨ (u = 2 ∧ 6 < f) ∨ (u = 3 ∧ 2 < f) ∨ (u = 4 ∧ 4 < f) ∨ (u = 5 ∧ 3 < f)

/-- Function `f` of unit `u` is CTL.JMP, LFSR.MIX, TX.SENDI or TX.SENDP (30_encoding.md R81). -/
def FnTakesImm (u f : Nat) : Prop :=
  (u = 0 ∧ f = 1) ∨ (u = 1 ∧ f = 2) ∨ (u = 4 ∧ f = 1) ∨ (u = 4 ∧ f = 2)

/-- `FieldsMean u f b r`: the decoder answers `r` for the fields `u`, `f`, `b`, with one constructor per way it
can answer. -/
inductive FieldsMean (u f : Nat) (b : Byte) : Except IllegalWord Instr → Prop where
  | reserved (why : IllegalWord) (noFn : FnReserved u f) : FieldsMean u f b (.error why)
  | immediate (i : Instr) (hasFn : ¬ FnReserved u f) (takes : FnTakesImm u f)
      (own : encode i = packWord (BitVec.ofNat 4 u) (BitVec.ofNat 4 f) b) : FieldsMean u f b (.ok i)
  | implicit (i : Instr) (hasFn : ¬ FnReserved u f) (takesNone : ¬ FnTakesImm u f)
      (own : encode i = packWord (BitVec.ofNat 4 u) (BitVec.ofNat 4 f) 0x00#8) : FieldsMean u f b (noImm i b)

/-- The relation holds of the decoder: the arms with an immediate, those of no operation, and the others. -/
theorem decodeFields_means (u f : Nat) (b : Byte) : FieldsMean u f b (decodeFields u f b) := by
  fun_cases decodeFields u f b
  case case1 | case5 | case20 | case21 =>
    exact .immediate _ (by simp [FnReserved]) (by simp [FnTakesImm]) rfl
  case case2 | case6 | case14 | case18 | case24 | case29 | case30 =>
    exact .reserved _ (by grind [FnReserved])
  all_goals exact .implicit _ (by simp [FnReserved]) (by simp [FnTakesImm]) rfl

/-- An operation without an immediate is illegal exactly when its `imm` field is not 0x00 (30_encoding.md R83). -/
theorem noImm_eq_error {i : Instr} {b : Byte} : (∃ why, noImm i b = .error why) ↔ b ≠ 0#8 := by
  unfold noImm
  split <;> simp [*]

/-- Fields are illegal exactly when there is no such function or it wants `imm` 0x00 and has another. -/
theorem decodeFields_eq_error_iff (u f : Nat) (b : Byte) :
    (∃ why, decodeFields u f b = .error why) ↔ FnReserved u f ∨ (b ≠ 0#8 ∧ ¬ FnTakesImm u f) := by
  have h := decodeFields_means u f b
  generalize decodeFields u f b = r at h ⊢
  cases h with
  | reserved why noFn => simp [noFn]
  | immediate i hasFn takes => simp [hasFn, takes]
  | implicit i hasFn takesNone => simp [noImm_eq_error, hasFn, takesNone]

/-- Fields that decode to an operation are the fields of its word. -/
theorem encode_of_decodeFields {u f : Nat} {b : Byte} {i : Instr} (ok : decodeFields u f b = .ok i) :
    encode i = packWord (BitVec.ofNat 4 u) (BitVec.ofNat 4 f) b := by
  have h := decodeFields_means u f b
  generalize decodeFields u f b = r at h ok
  cases h with
  | reserved => cases ok
  | immediate j _ _ own => cases ok; exact own
  | implicit j _ _ own =>
    obtain ⟨rfl, rfl⟩ := noImm_eq_ok.mp ok
    exact own

/-- A word that decodes to an operation is its encoding. -/
theorem encode_of_decode {w : Word} {i : Instr} (ok : decode w = .ok i) : encode i = w := by
  rw [encode_of_decodeFields ok, BitVec.ofNat_toNat, BitVec.ofNat_toNat, BitVec.setWidth_eq, BitVec.setWidth_eq,
    packWord_fields]

/-- An operation's word decodes to it: the encoder packs literal unit and function fields, by which the decoder
selects. -/
theorem decode_encode (i : Instr) : decode (encode i) = .ok i := by
  cases i <;> exact decode_packWord ..

end Sys2Proof
end

section
/-! SUPPORT. The rows of the operation map and the words that select them (30_encoding.md R82). -/

namespace Sys2Proof

/-- The map lists the rows of the operations and no others. -/
theorem mem_opcodeTable_iff {r : Row} : r ∈ opcodeTable ↔ ∃ i : Instr, i.row = r := by
  constructor
  · revert r
    simp only [opcodeTable, List.forall_mem_cons, List.not_mem_nil, false_imp_iff, exists_apply_eq_apply,
      implies_true, and_true]
  · rintro ⟨i, rfl⟩
    cases i <;> simp [opcodeTable, Instr.row]

/-- A row with mask 0xFFFF is selected by its pattern only. -/
theorem eq_of_selects_exact {name : String} {p w : Word} (h : Row.selects ⟨name, p, 0xFFFF#16⟩ w = true) :
    w = p := by
  have masked : w &&& BitVec.allOnes 16 = p := eq_of_beq h
  rwa [BitVec.and_allOnes] at masked

/-- The mask 0xFF00 keeps the unit. -/
theorem wordUnit_and_fieldMask (w : Word) : wordUnit (w &&& 0xFF00#16) = wordUnit w := by
  rw [wordUnit, BitVec.extractLsb'_and]
  exact BitVec.and_allOnes

/-- The mask 0xFF00 keeps the function. -/
theorem wordFn_and_fieldMask (w : Word) : wordFn (w &&& 0xFF00#16) = wordFn w := by
  rw [wordFn, BitVec.extractLsb'_and]
  exact BitVec.and_allOnes

/-- A row with mask 0xFF00 is selected by words with its unit and function only. -/
theorem eq_of_selects_fields {name : String} (u f : BitVec 4) {w : Word}
    (h : Row.selects ⟨name, packWord u f 0x00#8, 0xFF00#16⟩ w = true) : w = packWord u f (wordImm w) := by
  have masked : w &&& 0xFF00#16 = packWord u f 0x00#8 := eq_of_beq h
  have unit_eq : wordUnit w = u := by rw [← wordUnit_and_fieldMask, masked, wordUnit_packWord]
  have fn_eq : wordFn w = f := by rw [← wordFn_and_fieldMask, masked, wordFn_packWord]
  rw [← unit_eq, ← fn_eq, packWord_fields]

/-- A word that selects an operation's row is the word of an operation of that row. -/
theorem exists_encode_of_row_selects {i : Instr} {w : Word} (h : i.row.selects w = true) :
    ∃ j : Instr, encode j = w ∧ j.row = i.row := by
  cases i
  case ctlJmp => exact ⟨.ctlJmp (wordImm w), (eq_of_selects_fields 0x0#4 0x1#4 h).symm, rfl⟩
  case lfsrMix => exact ⟨.lfsrMix (wordImm w), (eq_of_selects_fields 0x1#4 0x2#4 h).symm, rfl⟩
  case txSendi => exact ⟨.txSendi (wordImm w), (eq_of_selects_fields 0x4#4 0x1#4 h).symm, rfl⟩
  case txSendp => exact ⟨.txSendp (wordImm w), (eq_of_selects_fields 0x4#4 0x2#4 h).symm, rfl⟩
  all_goals
    refine ⟨_, ?_, rfl⟩
    exact (eq_of_selects_exact h).symm

/-- An operation's word selects the operation's row. -/
theorem row_selects_encode (i : Instr) : i.row.selects (encode i) = true := by
  cases i
  exacts [Laws.RowMatch.ctlJmp _, Laws.RowMatch.lfsrStep, Laws.RowMatch.lfsrNext, Laws.RowMatch.lfsrMix _,
    Laws.RowMatch.adcPwrup, Laws.RowMatch.adcCfg, Laws.RowMatch.adcStart, Laws.RowMatch.adcWait,
    Laws.RowMatch.adcDrop, Laws.RowMatch.adcTake, Laws.RowMatch.adcPwrdn, Laws.RowMatch.pktSeqinc,
    Laws.RowMatch.pktBuild, Laws.RowMatch.pktCksum, Laws.RowMatch.txPwrup, Laws.RowMatch.txSendi _,
    Laws.RowMatch.txSendp _, Laws.RowMatch.txTail, Laws.RowMatch.txPwrdn, Laws.RowMatch.slpCalc,
    Laws.RowMatch.slpArm, Laws.RowMatch.slpWait, Laws.RowMatch.slpDisarm]

/-- A word that selects a row of the map decodes to an operation of that row. -/
theorem exists_decode_of_selects {r : Row} {w : Word} (hr : r ∈ opcodeTable) (h : r.selects w = true) :
    ∃ i : Instr, decode w = .ok i ∧ i.row = r := by
  obtain ⟨i, rfl⟩ := mem_opcodeTable_iff.mp hr
  obtain ⟨j, rfl, same⟩ := exists_encode_of_row_selects h
  exact ⟨j, decode_encode j, same⟩

end Sys2Proof
end

section
/-! PROOFS. The statements of 30_encoding.md: decoder and encoder, the rows of the map, the illegal words, and
the preamble. -/

namespace Sys2Proof.Proofs

open Sys2Proof Sys2Proof.Machine

/-- Settles O5: the decoder inverts the encoder, whatever the immediate. -/
theorem encodedOperationsDecodeBack : Obligations.EncodedOperationsDecodeBack :=
  decode_encode

/-- Settles O6: the fields a word decodes by are those its operation is packed from. -/
theorem legalWordsEncodeBack : Obligations.LegalWordsEncodeBack :=
  fun _ _ => encode_of_decode

/-- Settles O7: rows are disjoint because each selected row is that of the one operation the word decodes to. -/
theorem legalWordsAreTheRowsOfTheMap : Obligations.LegalWordsAreTheRowsOfTheMap := by
  refine ⟨rfl, ?_, ?_, fun w r hr h => exists_decode_of_selects hr h⟩
  · intro w r hr r' hr' h h'
    obtain ⟨i, hi, rfl⟩ := exists_decode_of_selects hr h
    obtain ⟨j, hj, rfl⟩ := exists_decode_of_selects hr' h'
    cases hi.symm.trans hj
    rfl
  · intro w i ok
    rw [← encode_of_decode ok]
    exact ⟨mem_opcodeTable_iff.mpr ⟨i, rfl⟩, row_selects_encode i⟩

/-- Settles O8: the list is `FnReserved` and the clause on `imm`, written out. -/
theorem illegalWordsAreTheListedOnes : Obligations.IllegalWordsAreTheListedOnes := by
  intro w
  have h := decodeFields_eq_error_iff (wordUnit w).toNat (wordFn w).toNat (wordImm w)
  simp only [FnReserved, FnTakesImm, or_assoc] at h
  exact h

/-- Settles O4: the decoder evaluated at each word. -/
theorem listedWordsDecodeAsTheSpecSays : Obligations.ListedWordsDecodeAsTheSpecSays := by
  unfold Obligations.ListedWordsDecodeAsTheSpecSays
  decide

/-- Settles O38: the sends by definition of the pseudo-operation, the slots by evaluation. -/
theorem preambleIsOnesAndThenAZero : Obligations.PreambleIsOnesAndThenAZero :=
  ⟨rfl, by decide⟩

end Sys2Proof.Proofs
end

section
/-! SUPPORT. The shift of the LFSR without its zero guard: what `lfsr_step` does off zero (40_lfsr.md R111,
R112 d), bit by bit, and its inverse. -/

namespace Sys2Proof.Machine

/-- The shift alone: `lfsr_step` without the zero guard. -/
def lfsrShift (s : Word) : Word := s.extractLsb' 0 15 ++ BitVec.ofBool (lfsrFeedback s)

/-- Off zero a step is the shift. -/
theorem lfsrStep_of_ne_zero (r : Word) {s : Word} (h : s ≠ 0#16) : lfsrStep r s = lfsrShift s := by
  rw [lfsrStep, lfsrGuard_of_ne_zero h, lfsrShift]

/-- Bit `j` of the shifted state: the feedback bit at 0, the bit below it elsewhere. -/
theorem lfsrShift_getLsbD (s : Word) (j : Nat) :
    (lfsrShift s).getLsbD j = if j = 0 then lfsrFeedback s else decide (j < 16) && s.getLsbD (j - 1) := by
  have guard_self : lfsrGuard s s = s := ite_self _
  have h := lfsrStep_getLsbD s s j
  rwa [guard_self, lfsrStep, guard_self] at h

theorem lfsrShift_getLsbD_zero (s : Word) : (lfsrShift s).getLsbD 0 = lfsrFeedback s :=
  lfsrShift_getLsbD s 0

theorem lfsrShift_getLsbD_succ (s : Word) {j : Nat} (hj : j < 15) : (lfsrShift s).getLsbD (j + 1) = s.getLsbD j := by
  simp only [lfsrShift_getLsbD, Nat.succ_ne_zero, if_false, Nat.add_lt_add_right hj 1, decide_true, Bool.true_and,
    Nat.add_sub_cancel]

/-- The bit recovered for the top of a predecessor (40_lfsr.md R112 b). -/
def lfsrDropped (t : Word) : Bool := t.getLsbD 0 ^^ t.getLsbD 14 ^^ t.getLsbD 13 ^^ t.getLsbD 11

/-- The predecessor of 40_lfsr.md R112 (b). -/
def lfsrUnshift (t : Word) : Word := BitVec.ofBool (lfsrDropped t) ++ t.extractLsb' 1 15

theorem lfsrUnshift_getLsbD_top (t : Word) : (lfsrUnshift t).getLsbD 15 = lfsrDropped t := by
  refine Eq.trans (BitVec.getLsbD_append (y := t.extractLsb' 1 15)) ?_
  simp

theorem lfsrUnshift_getLsbD_of_lt (t : Word) {j : Nat} (hj : j < 15) :
    (lfsrUnshift t).getLsbD j = t.getLsbD (j + 1) := by
  refine Eq.trans (BitVec.getLsbD_append (y := t.extractLsb' 1 15)) ?_
  simp only [hj, decide_true, BitVec.getLsbD_extractLsb', Bool.true_and, if_true, Nat.add_comm 1 j]

/-- Adding three of the taps to the sum of all four leaves the other one. -/
theorem xor_taps_cancel : ∀ a b c d : Bool, (a ^^ b ^^ c ^^ d ^^ b ^^ c ^^ d) = a := by decide

/-- The dropped bit is recovered from the feedback bit and the other three taps. -/
theorem lfsrUnshift_lfsrShift (s : Word) : lfsrUnshift (lfsrShift s) = s := by
  refine BitVec.eq_of_getLsbD_eq fun j hj => ?_
  rcases Nat.lt_succ_iff_lt_or_eq.mp hj with below | rfl
  · rw [lfsrUnshift_getLsbD_of_lt _ below, lfsrShift_getLsbD_succ _ below]
  · rw [lfsrUnshift_getLsbD_top, lfsrDropped, lfsrShift_getLsbD_zero]
    iterate 3 rw [lfsrShift_getLsbD_succ _ (by decide)]
    exact xor_taps_cancel ..

theorem lfsrShift_lfsrUnshift (t : Word) : lfsrShift (lfsrUnshift t) = t := by
  refine BitVec.eq_of_getLsbD_eq fun j hj => ?_
  rcases j with _ | j
  · rw [lfsrShift_getLsbD_zero, lfsrFeedback, lfsrUnshift_getLsbD_top]
    iterate 3 rw [lfsrUnshift_getLsbD_of_lt _ (by decide)]
    exact xor_taps_cancel ..
  · rw [lfsrShift_getLsbD_succ _ (by omega), lfsrUnshift_getLsbD_of_lt _ (by omega)]

theorem lfsrShift_injective : Function.Injective lfsrShift :=
  Function.LeftInverse.injective lfsrUnshift_lfsrShift

theorem lfsrShift_eq_iff {s t : Word} : lfsrShift s = t ↔ s = lfsrUnshift t :=
  ⟨fun h => h ▸ (lfsrUnshift_lfsrShift s).symm, fun h => h ▸ lfsrShift_lfsrUnshift t⟩

/-- The shift fixes 0 (40_lfsr.md R112 d), so by injectivity it takes nothing else there. -/
theorem lfsrShift_ne_zero {s : Word} (h : s ≠ 0#16) : lfsrShift s ≠ 0#16 :=
  lfsrShift_injective.ne_iff' (x := s) (y := 0#16) (by decide) |>.mpr h

theorem lfsrShift_iterate_ne_zero (n : Nat) {s : Word} (h : s ≠ 0#16) : lfsrShift^[n] s ≠ 0#16 :=
  Function.Iterate.rec (· ≠ 0#16) h (fun _ => lfsrShift_ne_zero) n

/-- Off zero, steps are shifts. -/
theorem lfsrSteps_of_ne_zero (r : Word) (n : Nat) {s : Word} (h : s ≠ 0#16) :
    lfsrSteps r n s = lfsrShift^[n] s := by
  induction n generalizing s with
  | zero => rfl
  | succ n ih => rw [lfsrSteps, lfsrStep_of_ne_zero r h, ih (lfsrShift_ne_zero h), Function.iterate_succ_apply]

/-- A bit at or above position `n` was `n` positions lower before `n` shifts. -/
theorem lfsrShift_iterate_getLsbD_of_le (s : Word) {n j : Nat} (hn : n ≤ j) (hj : j < 16) :
    (lfsrShift^[n] s).getLsbD j = s.getLsbD (j - n) := by
  obtain ⟨i, rfl⟩ := Nat.exists_eq_add_of_le' hn
  rw [Nat.add_sub_cancel]
  induction n with
  | zero => rfl
  | succ n ih =>
    rw [Function.iterate_succ_apply', ← Nat.add_assoc, lfsrShift_getLsbD_succ _ (by omega)]
    exact ih (by omega) (by omega)

/-- A bit below position `n` entered as feedback `j + 1` shifts ago. -/
theorem lfsrShift_iterate_getLsbD_of_lt (s : Word) {n j : Nat} (hn : j < n) (hj : j < 16) :
    (lfsrShift^[n] s).getLsbD j = lfsrFeedback (lfsrShift^[n - 1 - j] s) := by
  obtain ⟨m, rfl⟩ : ∃ m, n = j + (m + 1) := ⟨n - 1 - j, by omega⟩
  rw [Function.iterate_add_apply, lfsrShift_iterate_getLsbD_of_le _ le_rfl hj, Nat.sub_self,
    Function.iterate_succ_apply', lfsrShift_getLsbD_zero, show j + (m + 1) - 1 - j = m by omega]

/-- As long as the taps hold bits of `s`, the feedback is four of them, `n` positions lower (40_lfsr.md R114). -/
theorem lfsrFeedback_iterate (s : Word) {n : Nat} (hn : n ≤ 10) :
    lfsrFeedback (lfsrShift^[n] s) =
      (s.getLsbD (15 - n) ^^ s.getLsbD (13 - n) ^^ s.getLsbD (12 - n) ^^ s.getLsbD (10 - n)) := by
  unfold lfsrFeedback
  iterate 4 rw [lfsrShift_iterate_getLsbD_of_le _ (by omega) (by decide)]

end Sys2Proof.Machine
end

section
/-! SUPPORT. `lfsr_mix` as a swap of two bits (40_lfsr.md R115), and that no move but a power loss makes `lfsr`
zero (40_lfsr.md R117). -/

namespace Sys2Proof.Machine

/-- The place bit `j` of a mixed state comes from. -/
def mixSource (b : Byte) (j : Nat) : Nat := if b.getLsbD 0 then Equiv.swap 15 3 j else j

/-- The mask is set at the two swapped bits only. -/
theorem lfsrMixMask_getLsbD (j : Nat) : Config.lfsrMixMask.getLsbD j = decide (j = 15 ∨ j = 3) := by
  rcases Nat.lt_or_ge j 16 with inside | outside
  · revert j; decide
  · rw [BitVec.getLsbD_of_ge _ _ outside]
    simp; omega

/-- Mixing moves bits: flipping two bits that differ exchanges them, and exchanging equal bits does nothing. -/
theorem lfsrMix_getLsbD_eq_source (s : Word) (b : Byte) (j : Nat) :
    (lfsrMix s b).getLsbD j = s.getLsbD (mixSource b j) := by
  rw [lfsrMix_getLsbD, lfsrMixMask_getLsbD, mixSource, Equiv.swap_apply_def]
  cases b.getLsbD 0
  · simp only [Bool.false_and, Bool.xor_false, Bool.false_eq_true, if_false]
  · split_ifs <;> grind

/-- Mixing exchanges places below 16, so it keeps how many of them hold a one. -/
theorem mixSource_perm (b : Byte) : ((List.range 16).map (mixSource b)).Perm (List.range 16) := by
  unfold mixSource
  cases b.getLsbD 0 <;> decide

theorem mixSource_mixSource (b : Byte) (j : Nat) : mixSource b (mixSource b j) = j := by
  unfold mixSource
  cases b.getLsbD 0
  · rfl
  · exact Equiv.swap_apply_eq_iff.mpr rfl

theorem lfsrMix_lfsrMix (s : Word) (b : Byte) : lfsrMix (lfsrMix s b) b = s := by
  refine BitVec.eq_of_getLsbD_eq fun j _ => ?_
  rw [lfsrMix_getLsbD_eq_source, lfsrMix_getLsbD_eq_source, mixSource_mixSource]

/-- Mixing fixes 0, so as its own inverse it takes nothing else there (40_lfsr.md R116 a). -/
theorem lfsrMix_ne_zero {s : Word} (b : Byte) (h : s ≠ 0#16) : lfsrMix s b ≠ 0#16 := by
  have fixes : lfsrMix 0#16 b = 0#16 := by simp [lfsrMix]
  intro zero
  rw [← lfsrMix_lfsrMix s b, zero, fixes] at h
  exact h rfl

/-- No operation makes `lfsr` zero. -/
theorem exec_lfsr_ne_zero {i : Instr} {s t : State} (hx : exec i s = .next t) (h : s.lfsr ≠ 0#16) :
    t.lfsr ≠ 0#16 := by
  cases exec_eq_next_iff.mp hx
  case lfsrStep =>
    simp only [lfsrStep_of_ne_zero _ h]
    exact lfsrShift_ne_zero h
  case lfsrNext =>
    simp only [lfsrNext, lfsrSteps_of_ne_zero _ _ h]
    exact lfsrShift_iterate_ne_zero 8 h
  case lfsrMix => exact lfsrMix_ne_zero _ h
  case adcTake => exact lfsrMix_ne_zero _ h
  all_goals exact h

/-- `lfsr` is outside the collaborators' frame. -/
theorem CollaboratorFrame.lfsr_eq {s t : State} (h : CollaboratorFrame s t) : t.lfsr = s.lfsr := by
  cases h; rfl

/-- No move of SEQ makes `lfsr` zero. -/
theorem seqStep_lfsr_ne_zero {s t : State} (hq : seqStep s = .next t) (h : s.lfsr ≠ 0#16) : t.lfsr ≠ 0#16 := by
  obtain ⟨_, rfl⟩ | ⟨_, w, i, _, _, hi⟩ := seqStep_next hq
  · exact h
  · exact exec_lfsr_ne_zero hi h

end Sys2Proof.Machine
end

section
/-! SUPPORT. The bits the LFSR drops and how to run it fast: taking every second dropped bit halves the number of
shifts, because squaring keeps the recurrence over the field of two elements. -/

namespace Sys2Proof.Machine

/-- The bit dropped by shift number `n` from `s`, counted from 0. -/
def lfsrOutput (s : Word) (n : Nat) : Bool := (lfsrShift^[n] s).getLsbD 15

/-- A bit of a later state is one of the bits dropped from there on. -/
theorem lfsrShift_iterate_getLsbD_eq_output (s : Word) (n : Nat) {k : Nat} (hk : k ≤ 15) :
    (lfsrShift^[n] s).getLsbD (15 - k) = lfsrOutput s (n + k) := by
  rw [lfsrOutput, Nat.add_comm n k, Function.iterate_add_apply, lfsrShift_iterate_getLsbD_of_le _ hk (by decide)]

/-- The recurrence of the dropped bits: that of the feedback taps 15, 13, 12, 10. -/
theorem lfsrOutput_add_sixteen (s : Word) (n : Nat) :
    lfsrOutput s (n + 16) =
      (lfsrOutput s n ^^ lfsrOutput s (n + 2) ^^ lfsrOutput s (n + 3) ^^ lfsrOutput s (n + 5)) := by
  rw [lfsrOutput, lfsrShift_iterate_getLsbD_of_lt _ (by omega) (by decide), lfsrFeedback,
    ← lfsrShift_iterate_getLsbD_eq_output s n (k := 2) (by decide),
    ← lfsrShift_iterate_getLsbD_eq_output s n (k := 3) (by decide),
    ← lfsrShift_iterate_getLsbD_eq_output s n (k := 5) (by decide)]
  rfl

/-- States that drop the same 16 bits are the same. -/
theorem eq_of_lfsrOutput_eq {s t : Word} (h : ∀ n < 16, lfsrOutput s n = lfsrOutput t n) : s = t := by
  refine BitVec.eq_of_getLsbD_eq fun j hj => ?_
  have place : 15 - (15 - j) = j := by omega
  have bit (u : Word) : u.getLsbD j = lfsrOutput u (15 - j) := by
    have := lfsrShift_iterate_getLsbD_eq_output u 0 (k := 15 - j) (by omega)
    rwa [place, Nat.zero_add] at this
  rw [bit, bit, h _ (by omega)]

/-- The state that drops every second bit `s` drops (`lfsrOutput_decimate`). -/
def lfsrDecimate (s : Word) : Word := BitVec.ofFnLE fun j : Fin 16 => lfsrOutput s (2 * (15 - j))

theorem lfsrDecimate_getLsbD (s : Word) {j : Nat} (hj : j < 16) :
    (lfsrDecimate s).getLsbD j = lfsrOutput s (2 * (15 - j)) := by
  rw [lfsrDecimate, BitVec.getLsbD_ofFnLE, dif_pos hj]

/-- The recurrence put into itself: of the terms at 2 to 8 those left double and cancel. -/
theorem xor_recurrence_twice : ∀ a0 a2 a3 a4 a5 a6 a7 a8 a10 : Bool,
    ((a0 ^^ a2 ^^ a3 ^^ a5) ^^ (a2 ^^ a4 ^^ a5 ^^ a7) ^^ (a3 ^^ a5 ^^ a6 ^^ a8) ^^ (a5 ^^ a7 ^^ a8 ^^ a10)) =
      (a0 ^^ a4 ^^ a6 ^^ a10) := by decide

/-- Every second dropped bit obeys the recurrence of the dropped bits. -/
theorem lfsrOutput_add_thirty_two (s : Word) (n : Nat) :
    lfsrOutput s (n + 32) =
      (lfsrOutput s n ^^ lfsrOutput s (n + 4) ^^ lfsrOutput s (n + 6) ^^ lfsrOutput s (n + 10)) := by
  rw [lfsrOutput_add_sixteen s (n + 16), Nat.add_right_comm n 16 2, Nat.add_right_comm n 16 3,
    Nat.add_right_comm n 16 5]
  simp only [lfsrOutput_add_sixteen, Nat.add_assoc, Nat.reduceAdd]
  exact xor_recurrence_twice ..

/-- Two shifts before decimating are one shift after. -/
theorem lfsrDecimate_semiconj : Function.Semiconj lfsrDecimate lfsrShift^[2] lfsrShift := by
  intro s
  have later (n : Nat) : lfsrOutput (lfsrShift^[2] s) n = lfsrOutput s (n + 2) := by
    rw [lfsrOutput, lfsrOutput, Function.iterate_add_apply]
  refine BitVec.eq_of_getLsbD_eq fun j hj => ?_
  rw [lfsrDecimate_getLsbD _ hj, later]
  rcases j with _ | j
  · rw [lfsrShift_getLsbD_zero, lfsrFeedback]
    iterate 4 rw [lfsrDecimate_getLsbD _ (by decide)]
    exact lfsrOutput_add_thirty_two s 0
  · rw [lfsrShift_getLsbD_succ _ (by omega), lfsrDecimate_getLsbD _ (by omega)]
    congr 1; omega

/-- An even number of shifts before decimating is half as many after. -/
theorem lfsrDecimate_iterate (s : Word) (n : Nat) :
    lfsrDecimate (lfsrShift^[2 * n] s) = lfsrShift^[n] (lfsrDecimate s) := by
  rw [Function.iterate_mul]
  exact (lfsrDecimate_semiconj.iterate_right n).eq s

/-- The decimated state drops every second bit. -/
theorem lfsrOutput_decimate (s : Word) (n : Nat) : lfsrOutput (lfsrDecimate s) n = lfsrOutput s (2 * n) := by
  rw [lfsrOutput, ← lfsrDecimate_iterate, lfsrDecimate_getLsbD _ (by decide)]
  rfl

section EvenPlaces

variable {s t : Word} (even : ∀ n, Even n → lfsrOutput s n = lfsrOutput t n)
include even

/-- By the recurrence at an even place, the odd places at 3 and 5 agree or differ together. -/
theorem lfsrOutput_eq_iff_of_even {n : Nat} (hn : Even n) :
    lfsrOutput s (n + 3) = lfsrOutput t (n + 3) ↔ lfsrOutput s (n + 5) = lfsrOutput t (n + 5) := by
  have cancel : ∀ a b c d c' d' : Bool, (a ^^ b ^^ c ^^ d) = (a ^^ b ^^ c' ^^ d') → (c = c' ↔ d = d') := by decide
  have same := even (n + 16) (hn.add (by decide))
  rw [lfsrOutput_add_sixteen, lfsrOutput_add_sixteen, even n hn, even (n + 2) (hn.add even_two)] at same
  exact cancel _ _ _ _ _ _ same

/-- By the recurrence at an odd place, its term at 16 agrees exactly if those at 0 and 2 agree or differ together. -/
theorem lfsrOutput_add_sixteen_eq_iff_of_odd {n : Nat} (hn : Odd n) :
    lfsrOutput s (n + 16) = lfsrOutput t (n + 16) ↔
      (lfsrOutput s n = lfsrOutput t n ↔ lfsrOutput s (n + 2) = lfsrOutput t (n + 2)) := by
  have cancel : ∀ a b a' b' c d : Bool, (a ^^ b ^^ c ^^ d) = (a' ^^ b' ^^ c ^^ d) ↔ (a = a' ↔ b = b') := by decide
  rw [lfsrOutput_add_sixteen, lfsrOutput_add_sixteen, even (n + 3) (hn.add_odd (by decide)),
    even (n + 5) (hn.add_odd (by decide))]
  exact cancel ..

end EvenPlaces

/-- The dropped bits at even places determine the others: odd places from 3 on agree or differ together, and as
differing everywhere breaks the recurrence at 3, they agree. -/
theorem lfsrDecimate_injective : Function.Injective lfsrDecimate := by
  intro s t h
  have even (n : Nat) (hn : Even n) : lfsrOutput s n = lfsrOutput t n := by
    obtain ⟨m, rfl⟩ := even_iff_exists_two_mul.mp hn
    rw [← lfsrOutput_decimate, h, lfsrOutput_decimate]
  have together (n : Nat) :
      lfsrOutput s 3 = lfsrOutput t 3 ↔ lfsrOutput s (2 * n + 3) = lfsrOutput t (2 * n + 3) := by
    induction n with
    | zero => rfl
    | succ n ih => exact ih.trans (lfsrOutput_eq_iff_of_even even (even_two_mul n))
  have third : lfsrOutput s 3 = lfsrOutput t 3 :=
    (together 8).mpr ((lfsrOutput_add_sixteen_eq_iff_of_odd even (n := 3) (by decide)).mpr (together 1))
  have first : lfsrOutput s 1 = lfsrOutput t 1 :=
    ((lfsrOutput_add_sixteen_eq_iff_of_odd even (n := 1) (by decide)).mp ((together 7).mp third)).mpr third
  refine eq_of_lfsrOutput_eq fun n _ => ?_
  obtain hn | ⟨m, rfl⟩ := n.even_or_odd
  · exact even n hn
  · cases m with
    | zero => exact first
    | succ m => exact (together m).mp third

/-- `s` after `n` shifts, decimated once per binary digit `ds` of `n` (`lfsrDecimate_iterate_digits`). -/
def shiftByDigits : List Nat → Word → Word
  | [], s => s
  | d :: ds, s => shiftByDigits ds (lfsrDecimate (lfsrShift^[d] s))

theorem lfsrDecimate_iterate_digits (ds : List Nat) (s : Word) :
    lfsrDecimate^[ds.length] (lfsrShift^[Nat.ofDigits 2 ds] s) = shiftByDigits ds s := by
  induction ds generalizing s with
  | nil => rfl
  | cons d ds ih =>
    rw [Nat.ofDigits_cons, Nat.add_comm, Function.iterate_add_apply, List.length_cons,
      Function.iterate_succ_apply, lfsrDecimate_iterate, ih, shiftByDigits]

/-- Whether `n` shifts return to `s`, by as many decimations as `n` has binary digits. -/
theorem isPeriodicPt_lfsrShift_iff (n : Nat) (s : Word) :
    Function.IsPeriodicPt lfsrShift n s ↔
      shiftByDigits (Nat.digits 2 n) s = lfsrDecimate^[(Nat.digits 2 n).length] s := by
  rw [← lfsrDecimate_iterate_digits, (lfsrDecimate_injective.iterate _).eq_iff, Nat.ofDigits_digits]
  rfl

end Sys2Proof.Machine
end

section
/-! SUPPORT. The cycle of the non-zero LFSR states (40_lfsr.md R112 c): the period of one state is 65535, so its
cycle has room for no other non-zero state. -/

namespace Sys2Proof.Machine

/-- A period that no division by a prime shortens is the minimal one. -/
theorem minimalPeriod_eq_of_div_prime {α : Type*} {f : α → α} {x : α} {n : Nat}
    (returns : Function.IsPeriodicPt f n x)
    (noSooner : ∀ p : Nat, p.Prime → p ∣ n → ¬ Function.IsPeriodicPt f (n / p) x) :
    Function.minimalPeriod f x = n := by
  obtain ⟨k, hk⟩ := returns.minimalPeriod_dvd
  by_contra shorter
  have k_ne_one : k ≠ 1 := by rintro rfl; exact shorter (by rw [hk, Nat.mul_one])
  obtain ⟨p, hp, c, rfl⟩ := Nat.exists_prime_and_dvd k_ne_one
  have quotient : n / p = Function.minimalPeriod f x * c := by
    rw [hk, Nat.mul_left_comm, Nat.mul_div_cancel_left _ hp.pos]
  refine noSooner p hp ⟨_, hk.trans (Nat.mul_left_comm ..)⟩ ?_
  rw [quotient]
  exact (Function.isPeriodicPt_minimalPeriod f x).mul_const c

theorem prime_dvd_65535 {p : Nat} (hp : p.Prime) (h : p ∣ 65535) : p = 3 ∨ p = 5 ∨ p = 17 ∨ p = 257 := by
  have factors : p ∈ Nat.primeFactorsList 65535 := (Nat.mem_primeFactorsList (by decide)).mpr ⟨hp, h⟩
  simpa [Nat.primeFactorsList_ofNat] using factors

/-- The cycle through 0x0001: 65535 shifts return there, and no division by a prime factor does. -/
theorem minimalPeriod_lfsrShift_one : Function.minimalPeriod lfsrShift 0x0001#16 = 65535 := by
  refine minimalPeriod_eq_of_div_prime ?_ fun p hp hd => ?_
  · rw [isPeriodicPt_lfsrShift_iff]
    decide +kernel
  · rw [isPeriodicPt_lfsrShift_iff]
    obtain rfl | rfl | rfl | rfl := prime_dvd_65535 hp hd <;> decide +kernel

/-- Its 65535 states are all the non-zero ones. -/
theorem exists_lfsrShift_iterate_one {s : Word} (h : s ≠ 0#16) : ∃ n, lfsrShift^[n] 0x0001#16 = s := by
  have inj := Function.iterate_injOn_Iio_minimalPeriod (f := lfsrShift) (x := 0x0001#16)
  rw [minimalPeriod_lfsrShift_one] at inj
  have card : (Finset.univ.erase (0#16 : Word)).card ≤ (Finset.range 65535).card := by
    rw [Finset.card_erase_of_mem (Finset.mem_univ _), Finset.card_univ, ← FinEnum.card_eq_fintypeCard,
      FinEnum.card_bitVec, Finset.card_range]
    exact Nat.le_refl _
  have onto := Finset.surjOn_of_injOn_of_card_le (lfsrShift^[·] 0x0001#16)
    (fun n _ => Finset.mem_coe.mpr (Finset.mem_erase.mpr ⟨lfsrShift_iterate_ne_zero n (by decide), Finset.mem_univ _⟩))
    (by simpa using inj) card
  obtain ⟨n, _, hn⟩ := onto (Finset.mem_coe.mpr (Finset.mem_erase.mpr ⟨h, Finset.mem_univ s⟩))
  exact ⟨n, hn⟩

/-- Every non-zero state is on the one cycle, so it has the period of 0x0001. -/
theorem minimalPeriod_lfsrShift {s : Word} (h : s ≠ 0#16) : Function.minimalPeriod lfsrShift s = 65535 := by
  obtain ⟨n, rfl⟩ := exists_lfsrShift_iterate_one h
  have periodic : 0x0001#16 ∈ Function.periodicPts lfsrShift := by
    rw [← Function.minimalPeriod_pos_iff_mem_periodicPts, minimalPeriod_lfsrShift_one]
    decide
  rw [Function.minimalPeriod_apply_iterate periodic, minimalPeriod_lfsrShift_one]

end Sys2Proof.Machine
end

section
/-! PROOFS. The statements of 40_lfsr.md: the shift, its closed form and its cycle, and mixing. -/

namespace Sys2Proof.Proofs

open Sys2Proof Sys2Proof.Machine

/-- Settles O13: the high byte is bits of `s` moved up, the low byte the eight feedback bits, all of which depend
on `s` only. -/
theorem lfsrNextHasTheClosedForm : Obligations.LfsrNextHasTheClosedForm := by
  intro r s h
  rw [lfsrNext, lfsrSteps_of_ne_zero r 8 h]
  refine BitVec.eq_of_getLsbD_eq fun j hj => Eq.trans ?_ BitVec.getLsbD_append.symm
  by_cases low : j < 8
  · rw [lfsrShift_iterate_getLsbD_of_lt s low hj, lfsrFeedback_iterate s (by omega)]
    simp only [low, if_true, BitVec.getLsbD_extractLsb', BitVec.getLsbD_xor, BitVec.getLsbD_ushiftRight,
      decide_true, Bool.true_and]
    congr 4 <;> omega
  · rw [lfsrShift_iterate_getLsbD_of_le s (Nat.le_of_not_lt low) hj]
    simp [low, show j - 8 < 8 by omega]

/-- Settles O15: each clause from where the bits of a mixed state come from. -/
theorem lfsrMixSwapsAndKeepsOnes : Obligations.LfsrMixSwapsAndKeepsOnes := by
  intro s b
  refine ⟨fun j => ?_, ?_, lfsrMix_lfsrMix s b, lfsrMix_ne_zero b⟩
  · rw [lfsrMix_getLsbD_eq_source, mixSource, Equiv.swap_apply_def]
    split_ifs <;> simp_all
  · have moved : (lfsrMix s b).getLsbD = s.getLsbD ∘ mixSource b := funext (lfsrMix_getLsbD_eq_source s b)
    rw [moved, ← List.countP_map]
    exact (mixSource_perm b).countP_eq _

/-- Settles O16: off zero a step is the shift, whose inverse is the stated predecessor. -/
theorem lfsrStepIsABijectionOffZero : Obligations.LfsrStepIsABijectionOffZero := by
  intro r
  refine ⟨fun s h => ?_, fun t ht => ⟨?_, fun s h => ?_⟩⟩
  · rw [lfsrStep_of_ne_zero r h]
    exact lfsrShift_ne_zero h
  · intro zero
    have reached : lfsrShift 0#16 = t := lfsrShift_eq_iff.mpr zero.symm
    exact ht (reached.symm.trans (by decide))
  · rw [lfsrStep_of_ne_zero r h]
    exact lfsrShift_eq_iff

/-- Settles O17: off zero steps are shifts, and the minimal period of a shift is 65535. -/
theorem lfsrStatesFormOneCycle : Obligations.LfsrStatesFormOneCycle := by
  intro r s h
  refine ⟨?_, fun k pos below => ?_⟩
  · rw [lfsrSteps_of_ne_zero r _ h, ← minimalPeriod_lfsrShift h]
    exact Function.iterate_minimalPeriod
  · rw [lfsrSteps_of_ne_zero r k h]
    exact Function.not_isPeriodicPt_of_pos_of_lt_minimalPeriod pos.ne' (minimalPeriod_lfsrShift h ▸ below)

/-- Settles O18: the operations keep it off zero, and using up the move and the collaborators do not touch it. -/
theorem lfsrNeverFallsToZero : Obligations.LfsrNeverFallsToZero := by
  intro s t h noLoss hs
  rw [← s.popMove_lfsr] at hs
  obtain ⟨_, hq⟩ | ⟨d, _, rfl⟩ | ⟨_, rfl⟩ | ⟨_, rfl⟩ | ⟨loss, _⟩ := step_next h
  · exact seqStep_lfsr_ne_zero hq hs
  · rwa [(State.adcComplete_frame _ d).lfsr_eq]
  · exact hs
  · rwa [(State.alarmDeliver_frame _).lfsr_eq]
  · exact absurd loss noLoss

/-- Settles O11: the new state is `lfsr_step` of the old, read bit by bit. -/
theorem lfsrStepShiftsOnceWithFeedback : Obligations.LfsrStepShiftsOnceWithFeedback := by
  refine ⟨rfl, by decide, fun s => ⟨lfsrStep Config.lfsrReseed s.lfsr, ⟨?_, fun j hj => ?_⟩,
    (Performs.lfsrStep s).exec_eq⟩⟩
  · exact lfsrStep_getLsbD _ _ 0
  · rw [lfsrStep_getLsbD, if_neg j.succ_ne_zero, decide_eq_true (Nat.succ_lt_succ hj), Bool.true_and,
      Nat.add_sub_cancel]
    rfl

/-- Settles O12: `lfsr_next` is eight steps. -/
theorem lfsrNextAdvancesEightSteps : Obligations.LfsrNextAdvancesEightSteps := by
  refine ⟨rfl, fun s => ?_⟩
  rw [← lfsrSteps_eq_iterate]
  exact (Performs.lfsrNext s).exec_eq

/-- Settles O14: the condition of `lfsr_mix` as a proposition. -/
theorem lfsrMixFlipsTwoDifferingBits : Obligations.LfsrMixFlipsTwoDifferingBits := by
  refine ⟨fun imm => ⟨rfl, mt List.elem_eq_true_of_mem Bool.false_ne_true⟩, fun imm s => ?_⟩
  rw [(Performs.lfsrMix s imm).exec_eq]
  simp only [lfsrMix, Bool.and_eq_true, bne_iff_ne]
  rfl

end Sys2Proof.Proofs
end

section
/-! SUPPORT. Runs along a list of moves. No move reads the schedule, so a run is followed from state to state
without it (10_state.md R47). -/

namespace Sys2Proof.Machine

open Sys2Proof.Safety

/-- `MovesTo ms s t`: the moves `ms`, made one after the other by their agents, lead from `s` to `t`. -/
inductive MovesTo : List Move → State → State → Prop where
  | nil (s : State) : MovesTo [] s s
  | cons {m : Move} {ms : List Move} {s t u : State} (made : runMove m s = .next t) (rest : MovesTo ms t u) :
      MovesTo (m :: ms) s u

theorem MovesTo.append {ms ns : List Move} {s t u : State} (h : MovesTo ms s t) (k : MovesTo ns t u) :
    MovesTo (ms ++ ns) s u := by
  induction h with
  | nil => exact k
  | cons made _ ih => exact .cons made (ih k)

/-- No operation reads or writes the schedule. -/
theorem Performs.withMoves {i : Instr} {s t : State} (h : Performs i s t) (ms : List Move) :
    Performs i (withMoves ms s) (withMoves ms t) := by
  cases h <;> constructor <;> assumption

theorem seqStep_withMoves {s t : State} (h : seqStep s = .next t) (ms : List Move) :
    seqStep (withMoves ms s) = .next (withMoves ms t) := by
  obtain ⟨held, rfl⟩ | ⟨awake, w, i, fetched, decoded, performed⟩ := seqStep_next h
  · exact if_neg held
  · have performed' := ((exec_eq_next_iff.mp performed).withMoves ms).exec_eq
    have fetched' : (withMoves ms s).fetch = some w := fetched
    have awake' : (withMoves ms s).lpState = .run := awake
    simp only [seqStep, if_pos awake', fetched', decoded, performed']

theorem State.wake_withMoves (s : State) (ms : List Move) : (withMoves ms s).wake = withMoves ms s.wake := by
  unfold State.wake
  rw [apply_ite (withMoves ms)]
  rfl

theorem State.adcComplete_withMoves (s : State) (d : Sample) (ms : List Move) :
    (withMoves ms s).adcComplete d = withMoves ms (s.adcComplete d) := by
  unfold State.adcComplete
  rw [apply_ite (withMoves ms), apply_ite (withMoves ms)]
  exact congrArg (ite _ · _) (congrArg (ite _ · _)
    (State.wake_withMoves { s with adcBusy := false, adcData := d, convDone := true } ms))

theorem State.alarmDeliver_withMoves (s : State) (ms : List Move) :
    (withMoves ms s).alarmDeliver = withMoves ms s.alarmDeliver := by
  unfold State.alarmDeliver
  rw [apply_ite (withMoves ms)]
  exact congrArg (ite _ · _) (State.wake_withMoves { s with alarmFlag := false } ms)

/-- A move leads to the same state whatever is decided to follow it. -/
theorem runMove_withMoves {m : Move} {s t : State} (h : runMove m s = .next t) (ms : List Move) :
    runMove m (withMoves ms s) = .next (withMoves ms t) := by
  cases m with
  | seq => exact seqStep_withMoves h ms
  | adcDone d => cases h; exact congrArg _ (s.adcComplete_withMoves d ms)
  | alarmExpire => cases h; rfl
  | alarmDeliver => cases h; exact congrArg _ (s.alarmDeliver_withMoves ms)
  | powerLoss => cases h; rfl

/-- The machine with `ms` decided makes these moves. -/
theorem MovesTo.run {ms : List Move} {s t : State} (h : MovesTo ms s t) :
    core.run ms.length (withMoves ms s) = .next t := by
  induction h with
  | nil => rfl
  | @cons m ms s t _ made _ ih =>
    have stepped : core.step (withMoves (m :: ms) s) = .next (withMoves ms t) :=
      (step_decided rfl).trans (runMove_withMoves made ms)
    simp only [List.length_cons, Host.Core.run, stepped]
    exact ih

/-- SEQ awake performs the operation whose word it fetches. -/
theorem MovesTo.seq {i : Instr} {ms : List Move} {s t u : State} (awake : s.lpState = .run)
    (fetched : s.fetch = some (encode i)) (performs : Performs i s t) (rest : MovesTo ms t u) :
    MovesTo (.seq :: ms) s u := by
  refine .cons ?_ rest
  simp only [runMove, seqStep, if_pos awake, fetched, decode_encode, performs.exec_eq]

end Sys2Proof.Machine
end

section
/-! SUPPORT. The boundary between two iterations of the main loop (70_reset_and_hazards.md R283) as an equation. -/

namespace Sys2Proof.Safety

open Sys2Proof.Machine

/-- `s` with everything a loop boundary fixes put to its value there. -/
def atLoopBoundary (s : State) : State :=
  { s with
    text := controlRom, upc := 0x00#8, lpState := .run, sensorPwr := false, radioPwr := false, txOe := false
    txLevel := false, adcEn := false, adcIe := false, adcBusy := false, wakeEn := false }

/-- At a loop boundary all of that is in place already. -/
theorem LoopStart.atLoopBoundary_eq {s : State} (h : LoopStart s) : atLoopBoundary s = s := by
  obtain ⟨text, upc, awake, ⟨sensor, radio⟩, ⟨oe, level⟩, ⟨en, ie, busy⟩, wake⟩ := h
  cases s
  subst text upc awake sensor radio oe level en ie busy wake
  rfl

end Sys2Proof.Safety
end

section
/-! SUPPORT. The parts of READ_TEMPERATURE (41_adc.md R140): the wake of held SEQ, one conversion, and the whole
sequence in the control ROM. -/

namespace Sys2Proof.Machine

open Sys2Proof.Safety

/-- The wake of held SEQ (60_exceptions.md R245). -/
theorem State.wake_of_held {s : State} (held : s.lpState ≠ .run) :
    s.wake = { s with lpState := .run, trace := s.trace ++ [.lp .run] } :=
  if_neg held

/-- A completion with its signal enabled sets the flag and wakes held SEQ (41_adc.md R139). -/
theorem State.adcComplete_of_held {s : State} (d : Sample) (busy : s.adcBusy = true) (enabled : s.adcIe = true)
    (held : s.lpState ≠ .run) :
    s.adcComplete d = { s with
      adcBusy := false, adcData := d, convDone := true, lpState := .run, trace := s.trace ++ [.lp .run] } := by
  simp only [State.adcComplete, busy, State.convDeliverable, enabled, if_true, State.takeConv]
  exact State.wake_of_held held

/-- A run that begins with such a completion. -/
theorem MovesTo.adcDoneHeld {ms : List Move} {s u : State} {d : Sample} (busy : s.adcBusy = true)
    (enabled : s.adcIe = true) (held : s.lpState ≠ .run)
    (rest : MovesTo ms { s with
      adcBusy := false, adcData := d, convDone := true, lpState := .run, trace := s.trace ++ [.lp .run] } u) :
    MovesTo (.adcDone d :: ms) s u :=
  .cons (congrArg Host.Outcome.next (State.adcComplete_of_held d busy enabled held)) rest

/-- The moves of `CONVERT` when the conversion completes after SEQ entered LIGHT. -/
def convertMoves (d : Sample) : List Move := [.seq, .seq, .adcDone d, .seq]

/-- `CONVERT` in an enabled converter (30_encoding.md R86): ADC.WAIT holds once, and is performed again after the
wake. -/
theorem movesTo_convert {s : State} (d : Sample) (awake : s.lpState = .run) (converter : s.adcEn = true)
    (signal : s.adcIe = true) (start : s.fetch = some (encode .adcStart))
    (wait : s.advance.fetch = some (encode .adcWait)) :
    MovesTo (convertMoves d) s { s with
      upc := s.upc + 1#8 + 1#8, lpState := .run, convDone := true, adcBusy := false, adcData := d
      trace := s.trace ++ [.adcStart] ++ [.lp .light] ++ [.lp .run] } := by
  have busy : (s.adcBusy || s.adcEn) = true := by simp [converter]
  refine .seq awake start (.adcStart s) (.seq awake wait (.adcWaitHolds _ rfl) ?_)
  refine .adcDoneHeld busy signal nofun ?_
  exact .seq rfl wait (.adcWaitCompletes _ rfl) (.nil _)

/-- READ_TEMPERATURE from a loop boundary. The second conversion overwrites `adcData` before ADC.TAKE
reads it. -/
theorem movesTo_sampling (s : State) (a1 a2 : Sample) :
    MovesTo (samplingMoves a1 a2) (atLoopBoundary s)
      { atLoopBoundary s with
        upc := 0x09#8, adcCfg := adcConfigured, adcData := a2, convDone := true
        reading := sampleReading a2, lfsr := lfsrMix s.lfsr (sampleLowByte a2)
        trace := s.trace ++ [.sensor true] ++ [.adcCfg adcConfigured, .adcEn true true] ++ [.adcStart]
          ++ [.lp .light] ++ [.lp .run] ++ [.adcStart] ++ [.lp .light] ++ [.lp .run]
          ++ [.adcEn false false] ++ [.sensor false] } := by
  refine .seq rfl rfl (.adcPwrup _) (.seq rfl rfl (.adcCfg _) ?_)
  refine (movesTo_convert a1 rfl rfl rfl rfl rfl).append ?_
  refine .seq rfl rfl (.adcDrop _) ?_
  refine (movesTo_convert a2 rfl rfl rfl rfl rfl).append ?_
  exact .seq rfl rfl (.adcTake _) (.seq rfl rfl (.adcPwrdn _) (.nil _))

end Sys2Proof.Machine
end

section
/-! PROOFS. The statements of 41_adc.md: the operations of the analog sampling sequence, and the sequence. -/

namespace Sys2Proof.Proofs

open Sys2Proof Sys2Proof.Machine Sys2Proof.Safety

/-- Settles O59: the run of READ_TEMPERATURE from the boundary, the events gathered into one list. -/
theorem samplingKeepsOnlyTheSecondConversion : Obligations.SamplingKeepsOnlyTheSecondConversion := by
  intro s a1 a2 boundary
  rw [← boundary.atLoopBoundary_eq]
  refine (movesTo_sampling s a1 a2).run.trans ?_
  simp only [List.append_assoc]
  rfl

/-- Settles O19: what `Performs` lists for ADC.PWRUP. -/
theorem sensorPowersUp : Obligations.SensorPowersUp :=
  ⟨by decide, fun s => (Performs.adcPwrup s).exec_eq⟩

/-- Settles O20: what `Performs` lists for ADC.CFG. -/
theorem converterIsConfigured : Obligations.ConverterIsConfigured :=
  ⟨by decide, fun s => (Performs.adcCfg s).exec_eq⟩

/-- Settles O21: `adc_busy` becomes `adc_busy || adc_en`. -/
theorem conversionStartsIfEnabled : Obligations.ConversionStartsIfEnabled := by
  refine ⟨by decide, fun s => ⟨fun enabled => ?_, fun disabled => ?_⟩⟩
  · rw [(Performs.adcStart s).exec_eq, enabled, Bool.or_true]
  · rw [(Performs.adcStart s).exec_eq, disabled, Bool.or_false]

/-- Settles O22: the two ways ADC.WAIT goes, and the wake of SEQ held by it. -/
theorem conversionWaitRechecksTheFlag : Obligations.ConversionWaitRechecksTheFlag := by
  refine ⟨by decide, fun s => ⟨fun done => (Performs.adcWaitCompletes s done).exec_eq, fun pending => ?_⟩⟩
  exact ⟨_, (Performs.adcWaitHolds s pending).exec_eq, rfl, State.wake_of_held nofun, State.wake_of_held nofun⟩

/-- Settles O23: `Performs` lists only `upc` for ADC.DROP. -/
theorem droppedConversionChangesNothing : Obligations.DroppedConversionChangesNothing :=
  ⟨by decide, fun s => (Performs.adcDrop s).exec_eq⟩

/-- Settles O24: the captured value is the zero extension. -/
theorem takenConversionIsCapturedAndMixed : Obligations.TakenConversionIsCapturedAndMixed :=
  ⟨by decide, fun s => ⟨sampleReading s.adcData, sampleReading_toNat _, (Performs.adcTake s).exec_eq⟩⟩

/-- Settles O25: the two events come one after the other. -/
theorem converterThenSensorPowerDown : Obligations.ConverterThenSensorPowerDown := by
  refine ⟨by decide, fun s => ?_⟩
  rw [(Performs.adcPwrdn s).exec_eq, List.append_assoc]
  rfl

end Sys2Proof.Proofs
end

section
/-! SUPPORT. The packet's bytes: the two bytes of a word field, what PKT.BUILD and PKT.CKSUM leave in the buffer
read as a list, and a list of operations performed in order. -/

namespace Sys2Proof.Machine

open Sys2Proof.Safety

/-- Byte 0 of a word field (20_memory.md R63). -/
theorem ofNat_toNat_eq_lowByte (w : Word) : BitVec.ofNat 8 w.toNat = w.extractLsb' 0 8 := by
  simp [BitVec.extractLsb']

/-- Byte 1 of a word field (20_memory.md R63). -/
theorem ofNat_toNat_div_eq_highByte (w : Word) : BitVec.ofNat 8 (w.toNat / 256) = w.extractLsb' 8 8 := by
  simp [BitVec.extractLsb', Nat.shiftRight_eq_div_pow]

/-- The two bytes of a word put together again (30_encoding.md R94). -/
theorem highByte_append_lowByte (w : Word) : w.extractLsb' 8 8 ++ w.extractLsb' 0 8 = w := by
  rw [BitVec.extractLsb'_append_extractLsb'_eq_extractLsb' (by decide)]
  exact BitVec.extractLsb'_eq_self

/-- One byte more, at the next offset. -/
theorem State.pktBytes_succ (s : State) (n : Nat) : s.pktBytes (n + 1) = s.pktBytes n ++ [s.pktRead n] := by
  simp [State.pktBytes, List.range_succ]

/-- The record PKT.BUILD lays before the checksum byte, multi-byte fields low byte first (42_packet.md R152). -/
theorem State.layPacket_pktBytes (s : State) (nodeId typeTag : Byte) :
    (s.layPacket nodeId typeTag).pktBytes 6 =
      [nodeId, s.seqNo.extractLsb' 0 8, s.seqNo.extractLsb' 8 8, typeTag,
        s.reading.extractLsb' 0 8, s.reading.extractLsb' 8 8] := by
  simp only [← ofNat_toNat_eq_lowByte, ← ofNat_toNat_div_eq_highByte, State.pktBytes, funext (s.layPacket_read _ _)]
  rfl

/-- PKT.CKSUM keeps the bytes it reads (42_packet.md R153). -/
theorem State.storeChecksum_pktBytes_six (s : State) (f : List Byte → Byte) :
    (s.storeChecksum f).pktBytes 6 = s.pktBytes 6 :=
  List.map_congr_left fun a ha =>
    (s.storeChecksum_read f a).trans (if_neg (List.mem_range.mp ha).ne)

/-- PKT.CKSUM puts the checksum after the bytes it reads (42_packet.md R153). -/
theorem State.storeChecksum_pktBytes_seven (s : State) (f : List Byte → Byte) :
    (s.storeChecksum f).pktBytes 7 = s.pktBytes 6 ++ [f (s.pktBytes 6)] := by
  have last : (s.storeChecksum f).pktRead 6 = f (s.pktBytes 6) := s.storeChecksum_read f 6
  rw [State.pktBytes_succ, last, State.storeChecksum_pktBytes_six]

/-- A laid packet under its checksum decodes to the fields it was laid from (42_packet.md R157 c, R158). -/
theorem State.decodePacket_layPacket_storeChecksum (s : State) (nodeId typeTag : Byte) (f : List Byte → Byte) :
    decodePacket (((s.layPacket nodeId typeTag).storeChecksum f).pktBytes 7) = some {
      nodeId, seqNo := s.seqNo, readingType := typeTag, reading := s.reading
      checksum := f (((s.layPacket nodeId typeTag).storeChecksum f).pktBytes 6) } := by
  rw [State.storeChecksum_pktBytes_six, State.storeChecksum_pktBytes_seven, State.layPacket_pktBytes]
  simp only [List.cons_append, List.nil_append, decodePacket, highByte_append_lowByte]

/-- An operation that completes is followed by the rest of its list. -/
theorem Performs.execAll_cons {i : Instr} {s t : State} (h : Performs i s t) (rest : List Instr) :
    execAll (i :: rest) s = execAll rest t := by
  rw [execAll, h.exec_eq]

end Sys2Proof.Machine
end

section
/-! PROOFS. The statements of 42_packet.md: the sequence counter, the record, its checksum, and the three in
order. -/

namespace Sys2Proof.Proofs

open Sys2Proof Sys2Proof.Machine Sys2Proof.Safety

/-- Settles O27: the width of `seq_no` is that of the modulus. -/
theorem sequenceNumberIncrementsModulo : Obligations.SequenceNumberIncrementsModulo :=
  ⟨by decide, fun s => ⟨s.seqNo + 1#16, BitVec.toNat_add _ _, (Performs.pktSeqinc s).exec_eq⟩⟩

/-- Settles O28: what the laid packet reads at each offset. -/
theorem buildLaysOutTheRecord : Obligations.BuildLaysOutTheRecord := by
  refine ⟨by decide, fun s => ⟨_, (Performs.pktBuild s).exec_eq, ?_⟩⟩
  have reads := s.layPacket_read Config.nodeId Config.typeTemp
  refine ⟨reads 0, (reads 1).trans (ofNat_toNat_eq_lowByte _), (reads 2).trans (ofNat_toNat_div_eq_highByte _),
    reads 3, (reads 4).trans (ofNat_toNat_eq_lowByte _), (reads 5).trans (ofNat_toNat_div_eq_highByte _), reads 6,
    fun a outside => (reads a).trans ?_, rfl⟩
  have above : 7 ≤ a := outside
  iterate 7 rw [if_neg (by omega)]

/-- Settles O29: the six bytes read are those at offsets 0 to 5. -/
theorem checksumCoversTheBytesBeforeIt : Obligations.ChecksumCoversTheBytesBeforeIt := by
  refine ⟨by decide, fun s => ⟨_, (Performs.pktCksum s).exec_eq, ?_⟩⟩
  have reads := s.storeChecksum_read Config.checksum
  exact ⟨reads 6, fun a elsewhere => (reads a).trans (if_neg elsewhere), rfl⟩

/-- Settles O30: the packet is laid from the state after PKT.SEQINC, and PKT.CKSUM puts its checksum on it. -/
theorem builtPacketDecodesToItsFields : Obligations.BuiltPacketDecodesToItsFields := by
  intro s
  have run := ((Performs.pktSeqinc s).execAll_cons _).trans
    (((Performs.pktBuild _).execAll_cons _).trans ((Performs.pktCksum _).execAll_cons []))
  exact ⟨_, run, rfl, State.decodePacket_layPacket_storeChecksum _ _ _ _⟩

end Sys2Proof.Proofs
end

section
/-! SUPPORT. The line as an observer reads it: the events and the waveform of half-bit slots (10_state.md R44,
43_tx.md R175), and a Manchester decoder undone bit by bit and byte by byte (43_tx.md R176). -/

namespace Sys2Proof.Machine

open Sys2Proof.Safety

theorem slotEvents_append (ls ms : List Bool) : slotEvents (ls ++ ms) = slotEvents ls ++ slotEvents ms :=
  List.flatMap_append

/-- The events of a byte, bit by bit: each bit as `(b, ~b)` (30_encoding.md R90). -/
theorem slotEvents_manchester (b : Byte) :
    slotEvents (manchester b) = (List.range 8).flatMap fun k =>
      [.level (b.getLsbD k), .wait .half, .level (!b.getLsbD k), .wait .half] :=
  List.flatMap_assoc

/-- Slots are segments of the driven line, and leave it at the last level. -/
theorem waveformFrom_slotEvents_append (slots : List Bool) (level : Bool) (rest : List Event) :
    waveformFrom true level (slotEvents slots ++ rest) =
      (slots.map fun v => ⟨true, v, .half⟩) ++ waveformFrom true (slots.getLastD level) rest := by
  induction slots generalizing level with
  | nil => rfl
  | cons v vs ih =>
    rw [List.getLastD_cons, List.map_cons, List.cons_append, ← ih v]
    rfl

theorem lineTime_append (v w : List Segment) : lineTime (v ++ w) = lineTime v + lineTime w := by
  simp [lineTime]

theorem lineTime_map_half (slots : List Bool) :
    lineTime (slots.map fun v => ⟨true, v, .half⟩) = slots.length * Config.tHalf := by
  simp [lineTime, Function.comp_def, Duration.micros]

/-- Sixteen slots for each byte. -/
theorem length_flatMap_manchester (bytes : List Byte) : (bytes.flatMap manchester).length = 16 * bytes.length := by
  have sixteen (b : Byte) : (manchester b).length = 16 := rfl
  simp [List.length_flatMap, sixteen, Nat.mul_comm]

/-- A byte ends with the second slot of bit 7. -/
@[simp] theorem getLast?_manchester (b : Byte) : (manchester b).getLast? = some (!b.getLsbD 7) := rfl

/-- The bits of a byte in the order of transmission, bit 0 first (30_encoding.md R91). -/
def byteBits (b : Byte) : List Bool := (List.range 8).map b.getLsbD

theorem manchester_eq_flatMap_byteBits (b : Byte) : manchester b = (byteBits b).flatMap manchesterBit :=
  (List.flatMap_map ..).symm

/-- The two slots of a bit differ and begin with the bit. -/
theorem bitsOfSlots_flatMap_manchesterBit (bits : List Bool) :
    bitsOfSlots (bits.flatMap manchesterBit) = some bits := by
  induction bits with
  | nil => rfl
  | cons b bits ih => simp [manchesterBit, bitsOfSlots, ih]

theorem ofBoolListLE_byteBits (b : Byte) : BitVec.ofBoolListLE (byteBits b) = b := by
  refine BitVec.eq_of_getLsbD_eq fun j inside => ?_
  rw [BitVec.getLsbD_ofBoolListLE, List.getD_eq_getElem _ _ inside]
  simp only [byteBits, List.getElem_map, List.getElem_range]
  rfl

/-- The first eight bits are the first byte's. -/
theorem bytesOfBits_flatMap_byteBits (bytes : List Byte) : bytesOfBits (bytes.flatMap byteBits) = bytes := by
  induction bytes with
  | nil => rfl
  | cons b bytes ih => exact congrArg₂ List.cons (ofBoolListLE_byteBits b) ih

end Sys2Proof.Machine
end

section
/-! SUPPORT. TRANSMIT operation by operation (43_tx.md R180): a list of operations that each send a byte, and the
whole sequence in one equation. -/

namespace Sys2Proof.Machine

open Sys2Proof.Safety

/-- The slots of a frame before its tail (30_encoding.md R92). -/
def frameSlots (pkt : List Byte) : List Bool := (Config.preamble ++ pkt).flatMap manchester

/-- The state after as many operations as there are bytes, each sending one (43_tx.md R175). -/
def State.sent (s : State) (bytes : List Byte) : State :=
  { s with
    upc := s.upc + BitVec.ofNat 8 bytes.length
    txLevel := (bytes.flatMap manchester).getLastD s.txLevel
    txSr := 0#8, txBitcnt := 0#3, txHalf := false
    trace := s.trace ++ slotEvents (bytes.flatMap manchester) }

theorem State.sent_sent (s : State) (bs cs : List Byte) : (s.sent bs).sent cs = s.sent (bs ++ cs) := by
  simp [State.sent, slotEvents_append, BitVec.ofNat_add, BitVec.add_assoc]

theorem exec_txSendi_eq_sent (s : State) (imm : Byte) : exec (.txSendi imm) s = .next (s.sent [imm]) := by
  rw [(Performs.txSendi s imm).exec_eq]
  simp [State.sent]

theorem exec_txSendp_eq_sent (s : State) {imm : Byte} (inside : imm.toNat < Config.pktLen) :
    exec (.txSendp imm) s = .next (s.sent [s.pktRead imm.toNat]) := by
  rw [(Performs.txSendp s imm inside).exec_eq]
  simp [State.sent]

theorem exec_txSendp_outside (s : State) {imm : Byte} (outside : Config.pktLen ≤ imm.toNat) :
    exec (.txSendp imm) s = .refused .offsetOutsidePkt := by
  have noOffset : pktOffset imm = none := if_neg outside.not_gt
  simp only [exec, execTxSendp, noOffset]

/-- A list whose operations all complete is followed by what stands after it. -/
theorem execAll_append {is js : List Instr} {s t : State} (h : execAll is s = .next t) :
    execAll (is ++ js) s = execAll js t := by
  induction is generalizing s with
  | nil => cases h; rfl
  | cons i is ih =>
    cases hi : exec i s with
    | next u =>
      simp only [execAll, hi] at h
      simp only [List.cons_append, execAll, hi]
      exact ih h
    | fault r => cases r
    | refused r => simp [execAll, hi] at h

section Sends

variable {α : Type*} {op : α → Instr} {byte : α → Byte} {s : State}

/-- Operations that each send a byte, the packet as it is in `s`, continue a run that has sent `bytes`. -/
theorem execAll_map_sent_sent (as : List α) (bytes : List Byte)
    (sends : ∀ a ∈ as, ∀ u : State, u.pkt = s.pkt → exec (op a) u = .next (u.sent [byte a])) :
    execAll (as.map op) (s.sent bytes) = .next (s.sent (bytes ++ as.map byte)) := by
  induction as generalizing bytes with
  | nil => simp [execAll]
  | cons a as ih =>
    simp only [List.map_cons, execAll, sends a List.mem_cons_self (s.sent bytes) rfl, State.sent_sent]
    rw [ih _ fun b hb => sends b (List.mem_cons_of_mem a hb), List.append_assoc]
    rfl

/-- The first of them puts the serializer at rest, so that one at least is needed. -/
theorem execAll_map_sent (a : α) (as : List α)
    (sends : ∀ b ∈ a :: as, ∀ u : State, u.pkt = s.pkt → exec (op b) u = .next (u.sent [byte b])) :
    execAll ((a :: as).map op) s = .next (s.sent ((a :: as).map byte)) := by
  simp only [List.map_cons, execAll, sends a List.mem_cons_self s rfl]
  exact execAll_map_sent_sent as [byte a] fun b hb => sends b (List.mem_cons_of_mem a hb)

end Sends

theorem execAll_sendPreamble (s : State) : execAll sendPreamble s = .next (s.sent Config.preamble) :=
  execAll_map_sent (byte := id) _ _ fun b _ u _ => exec_txSendi_eq_sent u b

theorem execAll_sendPacket (s : State) : execAll sendPacket s = .next (s.sent (s.pktBytes Config.pktLen)) := by
  refine execAll_map_sent (byte := s.pktRead) 0 [1, 2, 3, 4, 5, 6] fun a ha u same => ?_
  have inside : a < Config.pktLen := List.mem_range.mp ha
  have offset : (BitVec.ofNat 8 a).toNat = a := Nat.mod_eq_of_lt (inside.trans (by decide))
  have read : u.pktRead a = s.pktRead a := congrArg (Memory.read · a) same
  rw [exec_txSendp_eq_sent u (offset.symm ▸ inside), offset, read]

/-- The events of a transmission: power-up, slots, tail, power-down (43_tx.md R180). -/
def transmitEvents (slots : List Bool) (tail : Bool) : List Event :=
  [.radio true, .oe true, .wait .settle] ++ slotEvents slots ++ [.level tail, .wait .tail]
    ++ [.radio false, .oe false, .level false]

/-- The last slot of a frame is the second of the last byte's bit 7. -/
theorem getLastD_frameSlots (s : State) (d : Bool) :
    (frameSlots (s.pktBytes Config.pktLen)).getLastD d = !(s.pktRead (Config.pktLen - 1)).getLsbD 7 := by
  have bytes : s.pktBytes Config.pktLen = s.pktBytes 6 ++ [s.pktRead 6] := s.pktBytes_succ 6
  have last : (frameSlots (s.pktBytes 6 ++ [s.pktRead 6])).getLastD d = !(s.pktRead 6).getLsbD 7 := by
    simp [frameSlots]
  exact bytes ▸ last

/-- So the tail that `frame_levels` ends with is that bit. -/
theorem frameLevels_pktBytes (s : State) :
    frameLevels (s.pktBytes Config.pktLen) =
      frameSlots (s.pktBytes Config.pktLen) ++ [(s.pktRead (Config.pktLen - 1)).getLsbD 7] := by
  rw [← Bool.not_not (BitVec.getLsbD _ _), ← getLastD_frameSlots s false]
  rfl

/-- The settle segment, a segment for each slot, and the tail. -/
theorem waveformFrom_transmitEvents (slots : List Bool) (tail : Bool) :
    waveformFrom false false (transmitEvents slots tail) =
      ⟨true, false, .settle⟩ :: (slots.map fun v => ⟨true, v, .half⟩) ++ [⟨true, tail, .tail⟩] := by
  simp only [transmitEvents, List.append_assoc]
  exact congrArg (List.cons _) (waveformFrom_slotEvents_append slots false _)

theorem lineTime_transmit (slots : List Bool) (tail : Bool) :
    lineTime (⟨true, false, .settle⟩ :: (slots.map fun v => ⟨true, v, .half⟩) ++ [⟨true, tail, .tail⟩]) =
      Config.tSettle + slots.length * Config.tHalf + Config.tTail := by
  rw [← List.singleton_append, lineTime_append, lineTime_append, lineTime_map_half]
  rfl

/-- `s` with the checksum stored in its packet (42_packet.md R153). -/
def State.checksummed (s : State) : State := s.storeChecksum Config.checksum

theorem State.checksummed_eq (s : State) : s.checksummed = { s with pkt := s.checksummed.pkt } :=
  s.storeChecksum_eq Config.checksum

theorem State.checksummed_read (s : State) (a : Nat) :
    s.checksummed.pktRead a =
      if a = Config.pktLen - 1 then Config.checksum (s.pktBytes (Config.pktLen - 1)) else s.pktRead a :=
  s.storeChecksum_read Config.checksum a

/-- The state after TRANSMIT: the checksum stored, the frame of the packet under it sent, the unit idle. -/
def State.transmitted (s : State) : State :=
  { s with
    pkt := s.checksummed.pkt
    upc := s.upc + 16#8
    radioPwr := false, txOe := false, txLevel := false
    txSr := 0#8, txBitcnt := 0#3, txHalf := false
    trace := s.trace ++ transmitEvents (frameSlots (s.checksummed.pktBytes Config.pktLen))
      ((s.checksummed.pktRead (Config.pktLen - 1)).getLsbD 7) }

/-- The frame's twelve sends with PKT.CKSUM between them are PKT.CKSUM and then the sends: the preamble needs no
checksum (43_tx.md R180). -/
theorem execAll_sendFrame (s : State) :
    execAll (sendPreamble ++ [.pktCksum] ++ sendPacket) s =
      .next (s.checksummed.advance.sent (Config.preamble ++ s.checksummed.pktBytes Config.pktLen)) := by
  have stored : execAll [.pktCksum] (s.sent Config.preamble) = .next (s.checksummed.advance.sent Config.preamble) := by
    rw [(Performs.pktCksum _).execAll_cons, s.checksummed_eq]
    simp only [execAll, State.sent, State.advance, add_right_comm s.upc]
    rfl
  rw [List.append_assoc, execAll_append (execAll_sendPreamble s), execAll_append stored, execAll_sendPacket,
    State.sent_sent]
  rfl

/-- Between power-up and the tail the frame is sent, and the tail toggles its last level. -/
theorem execAll_transmit (s : State) : execAll transmit s = .next s.transmitted := by
  have parts : transmit =
      .txPwrup :: (sendPreamble ++ [.pktCksum] ++ sendPacket ++ [.txTail, .txPwrdn]) := rfl
  have upc : s.upc + 1#8 + 1#8 + 12#8 + 1#8 + 1#8 = s.upc + 16#8 := by
    simp only [BitVec.add_assoc]
    rfl
  have events (slots : List Bool) (tail : Bool) :
      s.trace ++ [.radio true] ++ [.oe true] ++ [.wait .settle] ++ slotEvents slots
        ++ [.level tail, .wait .tail] ++ [.radio false] ++ [.oe false] ++ [.level false] =
      s.trace ++ transmitEvents slots tail := by
    simp only [transmitEvents, List.append_assoc, List.cons_append, List.nil_append]
  have last := getLastD_frameSlots s.checksummed s.txLevel
  rw [parts, (Performs.txPwrup s).execAll_cons, execAll_append (execAll_sendFrame _),
    (Performs.txTail _).execAll_cons, (Performs.txPwrdn _).execAll_cons,
    State.transmitted, ← upc, ← Bool.not_not (BitVec.getLsbD _ _), ← last, ← events]
  rfl

end Sys2Proof.Machine
end

section
/-! PROOFS. The statements of 43_tx.md: the operations of the Manchester transmitter, its byte code, and the whole
transmission. -/

namespace Sys2Proof.Proofs

open Sys2Proof Sys2Proof.Machine Sys2Proof.Safety

/-- Settles O33: the slots of the byte, bit by bit. -/
theorem immediateByteIsSerialized : Obligations.ImmediateByteIsSerialized := by
  refine ⟨fun imm => rfl, fun imm s => ?_⟩
  rw [(Performs.txSendi s imm).exec_eq, slotEvents_manchester]

/-- Settles O34: inside `pkt` the slots of the byte read, bit by bit; outside, the refusal. -/
theorem packetByteIsSerialized : Obligations.PacketByteIsSerialized := by
  refine ⟨fun imm => rfl, fun imm s => ⟨exec_txSendp_outside s, fun inside => ?_⟩⟩
  rw [(Performs.txSendp s imm inside).exec_eq, slotEvents_manchester]

/-- Settles O37: the decoder's two stages, each the inverse of one stage of the encoder. -/
theorem manchesterDecodesEveryByteSequence : Obligations.ManchesterDecodesEveryByteSequence := by
  intro bytes
  have stages : bytes.flatMap manchester = (bytes.flatMap byteBits).flatMap manchesterBit := by
    simp only [funext manchester_eq_flatMap_byteBits, List.flatMap_assoc]
  rw [stages, bitsOfSlots_flatMap_manchesterBit, Option.map_some, bytesOfBits_flatMap_byteBits]

/-- Settles O39: the state `State.transmitted`, whose packet ends with the checksum byte, and an observer's reading
of the events gained. -/
theorem transmitSendsTheFrame : Obligations.TransmitSendsTheFrame := by
  intro s radio oe level
  have waveform := waveformFrom_transmitEvents (frameSlots (s.checksummed.pktBytes Config.pktLen))
    ((s.checksummed.pktRead (Config.pktLen - 1)).getLsbD 7)
  have length : (frameSlots (s.checksummed.pktBytes Config.pktLen)).length = 192 := length_flatMap_manchester _
  refine ⟨_, _, _, _, execAll_transmit s, length, (frameLevels_pktBytes s.checksummed).symm, rfl, rfl, waveform, ?_,
    s.checksummed_read _, fun a elsewhere => (s.checksummed_read a).trans (if_neg elsewhere), ?_⟩
  · exact (congrArg lineTime waveform).trans (length ▸ lineTime_transmit _ _)
  · simp only [State.transmitted, transmitEvents, radio, oe, level]

/-- Settles O32: the three events come one after the other. -/
theorem transmitterPowersUp : Obligations.TransmitterPowersUp := by
  refine ⟨by decide, fun s => ?_⟩
  rw [(Performs.txPwrup s).exec_eq, List.append_assoc, List.append_assoc]
  rfl

/-- Settles O35: what `Performs` lists for TX.TAIL. -/
theorem tailTogglesTheLine : Obligations.TailTogglesTheLine :=
  ⟨by decide, fun s => (Performs.txTail s).exec_eq⟩

/-- Settles O36: the three events come one after the other. -/
theorem transmitterPowersDown : Obligations.TransmitterPowersDown := by
  refine ⟨by decide, fun s => ?_⟩
  rw [(Performs.txPwrdn s).exec_eq, List.append_assoc, List.append_assoc]
  rfl

end Sys2Proof.Proofs
end

section
/-! SUPPORT. The sleep loop (44_sleep.md R203): the wake of SEQ held by SLP.WAIT, one iteration, and a whole
count of iterations. -/

namespace Sys2Proof.Machine

open Sys2Proof.Safety

/-- `BASE_ITER` and the jitter do not overflow the count (44_sleep.md R201). -/
theorem sleepIterations_toNat (rnd : Byte) : (sleepIterations rnd).toNat = Config.baseIter + rnd.toNat % 8 := by
  have base : Config.baseIter = 117 := by decide
  rw [sleepIterations, BitVec.toNat_add, jitter_toNat, base, BitVec.toNat_ofNat]
  omega

/-- A tick of the enabled alarm wakes held SEQ and leaves no expiry pending (44_sleep.md R206). -/
theorem alarmTick_of_held {s : State} (enabled : s.wakeEn = true) (held : s.lpState ≠ .run) :
    alarmTick s = { s with alarmFlag := false, lpState := .run, trace := s.trace ++ [.lp .run] } := by
  have deliverable : s.alarmExpire.alarmDeliverable = true := by
    simp [State.alarmExpire, State.alarmDeliverable, enabled]
  rw [alarmTick, State.alarmDeliver, if_pos deliverable]
  exact State.wake_of_held held

/-- One iteration: a tick ends the hold, so that only the count and the trace differ afterwards. -/
theorem sleepCycles_succ {n : Nat} {s : State} (left : s.sleepCnt ≠ 0#8) (awake : s.lpState = .run)
    (enabled : s.wakeEn = true) (fresh : s.alarmFlag = false) :
    sleepCycles (n + 1) s =
      sleepCycles n { s with sleepCnt := s.sleepCnt - 1#8, trace := s.trace ++ [.lp .deep, .lp .run] } := by
  have once := alarmTick_of_held (s := { s with
    sleepCnt := s.sleepCnt - 1#8, lpState := .deep, trace := s.trace ++ [.lp .deep] }) enabled nofun
  rw [sleepCycles, (Performs.slpWaitHolds s left).exec_eq]
  simp only [once, List.append_assoc, List.cons_append, List.nil_append]
  rw [← awake, ← fresh]

/-- The whole count: a pair of events for each iteration, and a count of 0 at the end (44_sleep.md R203). -/
theorem sleepCycles_of_toNat_eq {n : Nat} {s : State} (count : s.sleepCnt.toNat = n) (awake : s.lpState = .run)
    (enabled : s.wakeEn = true) (fresh : s.alarmFlag = false) :
    sleepCycles n s = .next { s with
      sleepCnt := 0#8, trace := s.trace ++ (List.replicate n [.lp .deep, .lp .run]).flatten } := by
  induction n generalizing s with
  | zero =>
    have zero : s.sleepCnt = 0#8 := BitVec.eq_of_toNat_eq count
    rw [List.replicate_zero, List.flatten_nil, List.append_nil, ← zero]
    rfl
  | succ n ih =>
    have left : s.sleepCnt ≠ 0#8 := by bv_omega
    have rest : (s.sleepCnt - 1#8).toNat = n := by bv_omega
    rw [sleepCycles_succ left awake enabled fresh, List.replicate_succ, List.flatten_cons, ← List.append_assoc]
    exact ih rest awake enabled fresh

end Sys2Proof.Machine
end

section
/-! PROOFS. The statements of 44_sleep.md: the operations of the sleep scheduler, and the sleep loop. -/

namespace Sys2Proof.Proofs

open Sys2Proof Sys2Proof.Machine Sys2Proof.Safety

/-- Settles O42: the two ways SLP.WAIT goes, the wake of SEQ held by it, and an induction on the count. -/
theorem sleepWaitEntersDeepCountTimes : Obligations.SleepWaitEntersDeepCountTimes := by
  refine ⟨by decide, fun s => ⟨fun zero => (Performs.slpWaitCompletes s zero).exec_eq, fun left => ?_⟩,
    fun s awake enabled fresh => ?_⟩
  · exact ⟨_, (Performs.slpWaitHolds s left).exec_eq, rfl, State.wake_of_held nofun, State.wake_of_held nofun⟩
  · exact ⟨_, sleepCycles_of_toNat_eq rfl awake enabled fresh, rfl, (Performs.slpWaitCompletes _ rfl).exec_eq⟩

/-- Settles O40: the count is `sleepIterations`, and a remainder modulo 8 is at most 7. -/
theorem sleepCountIsBasePlusJitter : Obligations.SleepCountIsBasePlusJitter := by
  have base : Config.tTarget / Config.tAlarm = 117 := by decide
  refine ⟨by decide, base, fun s => ?_⟩
  have count : (sleepIterations s.rnd).toNat = Config.tTarget / Config.tAlarm + s.rnd.toNat % 8 :=
    sleepIterations_toNat s.rnd
  exact ⟨sleepIterations s.rnd, count, by omega, by omega, (Performs.slpCalc s).exec_eq⟩

/-- Settles O41: what `Performs` lists for SLP.ARM. -/
theorem armingForgetsAStaleExpiry : Obligations.ArmingForgetsAStaleExpiry :=
  ⟨by decide, fun s => (Performs.slpArm s).exec_eq⟩

/-- Settles O43: `Performs` lists `wake_en` and no `alarm_flag` for SLP.DISARM. -/
theorem disarmingDisablesTheWake : Obligations.DisarmingDisablesTheWake :=
  ⟨by decide, fun s => (Performs.slpDisarm s).exec_eq⟩

end Sys2Proof.Proofs
end

section
/-! SUPPORT. The control ROM word by word (45_control.md R224): what SEQ performs there, and that a legal operand
is enough to perform it. -/

namespace Sys2Proof.Machine

/-- SEQ awake performs the operation its word decodes to, whatever that answers (45_control.md R221). -/
theorem seqStep_of_decode {s : State} {w : Word} {i : Instr} (awake : s.lpState = .run)
    (fetched : s.fetch = some w) (decoded : decode w = .ok i) : seqStep s = exec i s := by
  simp only [seqStep, if_pos awake, fetched, decoded]

/-- The ROM is the expansion of `MAIN_LOOP`. -/
theorem map_encode_mainLoop : mainLoop.map encode = controlRom := by decide

/-- In the ROM SEQ fetches the word of an operation of `MAIN_LOOP`. -/
theorem fetch_of_mainLoop {s : State} {i : Instr} (rom : s.text = controlRom)
    (placed : mainLoop[s.upc.toNat]? = some i) : s.fetch = some (encode i) := by
  rw [State.fetch, rom, ← map_encode_mainLoop, List.getElem?_map, placed, Option.map_some]

/-- What holds of each operation of `MAIN_LOOP` at its own index holds of the one at `u`. -/
theorem of_mainLoop {P : Instr → Byte → Prop} (each : ∀ p ∈ mainLoop.zipIdx, P p.1 (BitVec.ofNat 8 p.2))
    {i : Instr} {u : Byte} (placed : mainLoop[u.toNat]? = some i) : P i u := by
  have here := each (i, u.toNat) (List.mk_mem_zipIdx_iff_getElem?.mpr placed)
  rwa [BitVec.ofNat_toNat, BitVec.setWidth_eq] at here

/-- An operation with a legal operand completes or holds (30_encoding.md R83). -/
theorem exists_performs_of_wellFormed {i : Instr} {s : State} (legal : i.wellFormed s.text.length = true) :
    ∃ t, Performs i s t := by
  cases i
  case ctlJmp imm => exact ⟨_, .ctlJmp s imm (of_decide_eq_true legal)⟩
  case adcWait =>
    cases pending : s.convDone
    · exact ⟨_, .adcWaitHolds s pending⟩
    · exact ⟨_, .adcWaitCompletes s pending⟩
  case txSendp imm => exact ⟨_, .txSendp s imm (of_decide_eq_true legal)⟩
  case slpWait =>
    by_cases zero : s.sleepCnt = 0x00#8
    · exact ⟨_, .slpWaitCompletes s zero⟩
    · exact ⟨_, .slpWaitHolds s zero⟩
  all_goals exact ⟨_, by constructor⟩

end Sys2Proof.Machine
end

section
/-! SUPPORT. The supplies, enables and drives the ROM switches (45_control.md R225, R228; 70_reset_and_hazards.md
R291, R298): what an operation does to them, and that `MAIN_LOOP` switches each at the ends of its window. -/

namespace Sys2Proof.Machine

open Sys2Proof.Safety

/-- The bits that are on in a window of `upc`. -/
structure Controls where
  sensorPwr : Bool
  adcEn : Bool
  adcIe : Bool
  radioPwr : Bool
  txOe : Bool
  wakeEn : Bool
deriving DecidableEq

/-- Those bits of a state. -/
def State.controls (s : State) : Controls :=
  ⟨s.sensorPwr, s.adcEn, s.adcIe, s.radioPwr, s.txOe, s.wakeEn⟩

/-- The windows of `RomInv` (`romInv_controls`, `romInv_of_controls`). -/
def Controls.window (u : Byte) : Controls where
  sensorPwr := decide (0x01 ≤ u.toNat ∧ u.toNat ≤ 0x08)
  adcEn := decide (0x02 ≤ u.toNat ∧ u.toNat ≤ 0x08)
  adcIe := decide (0x02 ≤ u.toNat ∧ u.toNat ≤ 0x08)
  radioPwr := decide (0x0C ≤ u.toNat ∧ u.toNat ≤ 0x1A)
  txOe := decide (0x0C ≤ u.toNat ∧ u.toNat ≤ 0x1A)
  wakeEn := decide (0x1E ≤ u.toNat ∧ u.toNat ≤ 0x1F)

/-- What an operation does to them (`Performs.controls_eq`). -/
def Controls.after (c : Controls) : Instr → Controls
  | .adcPwrup => { c with sensorPwr := true }
  | .adcCfg => { c with adcEn := true, adcIe := true }
  | .adcPwrdn => { c with adcEn := false, adcIe := false, sensorPwr := false }
  | .txPwrup => { c with radioPwr := true, txOe := true }
  | .txPwrdn => { c with radioPwr := false, txOe := false }
  | .slpArm => { c with wakeEn := true }
  | .slpDisarm => { c with wakeEn := false }
  | _ => c

theorem Performs.controls_eq {i : Instr} {s t : State} (h : Performs i s t) :
    t.controls = s.controls.after i := by
  cases h <;> rfl

/-- Where `upc` goes when an operation completes (45_control.md R223). -/
def upcAfter (u : Byte) : Instr → Byte
  | .ctlJmp imm => imm
  | _ => u + 1#8

/-- An operation completes, or it is a wait and holds SEQ at it. -/
theorem Performs.completes_or_holds {i : Instr} {s t : State} (h : Performs i s t) :
    (t.upc = upcAfter s.upc i ∧ t.lpState = s.lpState) ∨
    (t.upc = s.upc ∧ i = .adcWait ∧ t.lpState = .light) ∨
    (t.upc = s.upc ∧ i = .slpWait ∧ t.lpState = .deep) := by
  cases h
  case adcWaitHolds => exact .inr (.inl ⟨rfl, rfl, rfl⟩)
  case slpWaitHolds => exact .inr (.inr ⟨rfl, rfl, rfl⟩)
  all_goals exact .inl ⟨rfl, rfl⟩

/-- A conversion is started only in an enabled converter, and ADC.PWRDN ends it (41_adc.md R133, R137). -/
theorem Performs.busy_enabled {i : Instr} {s t : State} (h : Performs i s t)
    (busy : s.adcBusy = true → s.adcEn = true) : t.adcBusy = true → t.adcEn = true := by
  cases h
  case adcCfg => exact fun _ => rfl
  case adcStart => exact fun on => (Bool.or_eq_true_iff.mp on).elim busy id
  case adcPwrdn => exact id
  all_goals exact busy

/-- The operations that write the level latch while the line is to be driven (43_tx.md R175, R177). -/
def drivesLevel : Instr → Bool
  | .txSendi _ | .txSendp _ | .txTail => true
  | _ => false

/-- The latch of a released line stays low: it is written high only by operations performed on a driven line. -/
theorem Performs.latch_idle {i : Instr} {s t : State} (h : Performs i s t)
    (driven : drivesLevel i = true → s.txOe = true) (idle : s.txOe = false → s.txLevel = false) :
    t.txOe = false → t.txLevel = false := by
  cases h
  case txPwrup => exact nofun
  case txPwrdn => exact fun _ => rfl
  case txSendi | txSendp | txTail => exact fun released => absurd (driven rfl) (Bool.eq_false_iff.mp released)
  all_goals exact idle

section Placed

variable {i : Instr} {u : Byte} (placed : mainLoop[u.toNat]? = some i)
include placed

theorem mainLoop_wellFormed : i.wellFormed controlRom.length = true :=
  of_mainLoop (P := fun i _ => i.wellFormed controlRom.length = true) (by decide) placed

theorem mainLoop_upcAfter_lt : (upcAfter u i).toNat < Config.romLen :=
  of_mainLoop (P := fun i u => (upcAfter u i).toNat < Config.romLen) (by decide) placed

/-- Each operation leads from the windows at its index to those at the next. -/
theorem mainLoop_window : (Controls.window u).after i = Controls.window (upcAfter u i) :=
  of_mainLoop (P := fun i u => (Controls.window u).after i = Controls.window (upcAfter u i)) (by decide) placed

theorem mainLoop_driven : drivesLevel i = true → (Controls.window u).txOe = true :=
  of_mainLoop (P := fun i u => drivesLevel i = true → (Controls.window u).txOe = true) (by decide) placed

theorem mainLoop_adcWait : i = .adcWait → u.toNat = 0x03 ∨ u.toNat = 0x06 :=
  of_mainLoop (P := fun i u => i = .adcWait → u.toNat = 0x03 ∨ u.toNat = 0x06) (by decide) placed

theorem mainLoop_slpWait : i = .slpWait → u.toNat = 0x1E :=
  of_mainLoop (P := fun i u => i = .slpWait → u.toNat = 0x1E) (by decide) placed

end Placed

end Sys2Proof.Machine
end

section
/-! SUPPORT. The ROM invariant through its windows, and that every agent's move keeps it (45_control.md R225,
R228). -/

namespace Sys2Proof.Machine

open Sys2Proof.Safety

/-- The invariant's clauses on supplies, enables and drives: each bit is on in its window. -/
theorem romInv_controls {s : State} (h : RomInv s) : s.controls = Controls.window s.upc := by
  simp only [State.controls, Controls.window, h.lineDriven, h.convSignal, h.sensor, h.converter, h.radio, h.wake]

/-- A state whose bits are as the windows say, with the clauses that are about other state. -/
theorem romInv_of_controls {s : State} (text : s.text = controlRom) (inRom : s.upc.toNat < Config.romLen)
    (controls : s.controls = Controls.window s.upc) (busy : s.adcBusy = true → s.adcEn = true)
    (latchIdle : s.txOe = false → s.txLevel = false)
    (heldLight : s.lpState = .light → s.upc.toNat = 0x03 ∨ s.upc.toNat = 0x06)
    (heldDeep : s.lpState = .deep → s.upc.toNat = 0x1E) : RomInv s where
  text := text
  inRom := inRom
  sensor := congrArg Controls.sensorPwr controls
  converter := congrArg Controls.adcEn controls
  convSignal := (congrArg Controls.adcIe controls).trans (congrArg Controls.adcEn controls).symm
  busy := busy
  radio := congrArg Controls.radioPwr controls
  lineDriven := (congrArg Controls.txOe controls).trans (congrArg Controls.radioPwr controls).symm
  latchIdle := latchIdle
  wake := congrArg Controls.wakeEn controls
  heldLight := heldLight
  heldDeep := heldDeep

/-- An operation keeps the invariant when performed by SEQ awake at its index: one that completes is at the next
index awake, and a wait that holds switches nothing. -/
theorem Performs.romInv {i : Instr} {s t : State} (performs : Performs i s t) (h : RomInv s)
    (awake : s.lpState = .run) (placed : mainLoop[s.upc.toNat]? = some i) : RomInv t := by
  have text : t.text = controlRom := (exec_text performs.exec_eq).trans h.text
  have controls : t.controls = (Controls.window s.upc).after i := romInv_controls h ▸ performs.controls_eq
  have busy := performs.busy_enabled h.busy
  have driven (drives : drivesLevel i = true) : s.txOe = true :=
    (congrArg Controls.txOe (romInv_controls h)).trans (mainLoop_driven placed drives)
  have latchIdle := performs.latch_idle driven h.latchIdle
  obtain ⟨upc, lp⟩ | ⟨upc, rfl, lp⟩ | ⟨upc, rfl, lp⟩ := performs.completes_or_holds
  · refine romInv_of_controls text ?_ ?_ busy latchIdle ?_ ?_
    · exact upc ▸ mainLoop_upcAfter_lt placed
    · rw [controls, upc, mainLoop_window placed]
    · simp [lp, awake]
    · simp [lp, awake]
  · refine romInv_of_controls text (upc ▸ h.inRom) (upc ▸ controls) busy latchIdle ?_ ?_
    · exact fun _ => upc ▸ mainLoop_adcWait placed rfl
    · simp [lp]
  · refine romInv_of_controls text (upc ▸ h.inRom) (upc ▸ controls) busy latchIdle ?_ ?_
    · simp [lp]
    · exact fun _ => upc ▸ mainLoop_slpWait placed rfl

/-- SEQ's move in the ROM answers a next state and keeps the invariant: every index below `ROM_LEN` holds an
operation with a legal operand. -/
theorem seqStep_romInv {s : State} (h : RomInv s) : ∃ t, seqStep s = .next t ∧ RomInv t := by
  by_cases awake : s.lpState = .run
  · have inLoop : s.upc.toNat < mainLoop.length := h.inRom
    have placed := List.getElem?_eq_getElem inLoop
    obtain ⟨t, performs⟩ := exists_performs_of_wellFormed (s := s) (h.text ▸ mainLoop_wellFormed placed)
    refine ⟨t, ?_, performs.romInv h awake placed⟩
    rw [seqStep_of_decode awake (fetch_of_mainLoop h.text placed) (decode_encode _), performs.exec_eq]
  · exact ⟨s, if_neg awake, h⟩

/-- Using up a move keeps the ROM invariant. -/
theorem State.popMove_romInv {s : State} (h : RomInv s) : RomInv s.popMove := by
  rw [s.popMove_eq]
  exact { h with }

/-- A collaborator's move that starts no conversion and holds SEQ nowhere keeps the ROM invariant. -/
theorem CollaboratorFrame.romInv {s t : State} (hf : CollaboratorFrame s t)
    (startsNone : t.adcBusy = true → s.adcBusy = true) (holdsNone : t.lpState = s.lpState ∨ t.lpState = .run)
    (h : RomInv s) : RomInv t := by
  cases hf
  refine { h with busy := fun on => h.busy (startsNone on), heldLight := fun held => ?_, heldDeep := fun held => ?_ }
  · exact h.heldLight (by simp_all)
  · exact h.heldDeep (by simp_all)

/-- A completion leaves SEQ where it is or wakes it. -/
theorem State.adcComplete_lpState (s : State) (d : Sample) :
    (s.adcComplete d).lpState = s.lpState ∨ (s.adcComplete d).lpState = .run := by
  obtain ⟨_, he⟩ | ⟨_, _, he⟩ | ⟨_, _, he⟩ := s.adcComplete_cases d <;> rw [he]
  · exact .inl rfl
  · exact .inl rfl
  · exact .inr (State.takeConv_lpState _)

/-- A delivery move leaves SEQ where it is or wakes it. -/
theorem State.alarmDeliver_lpState (s : State) :
    s.alarmDeliver.lpState = s.lpState ∨ s.alarmDeliver.lpState = .run := by
  obtain ⟨_, he⟩ | ⟨_, _, he⟩ := s.alarmDeliver_cases <;> rw [he]
  · exact .inl rfl
  · exact .inr s.takeAlarm_lpState

/-- A power loss leaves the ROM at index 0 with everything off. -/
theorem State.powerLoss_romInv {s : State} (rom : s.text = controlRom) : RomInv s.powerLoss :=
  have first : (0x00#8).toNat < Config.romLen := by decide
  romInv_of_controls (s := s.powerLoss) rom first rfl id (fun _ => rfl) nofun nofun

end Sys2Proof.Machine
end

section
/-! SUPPORT. Runs of SEQ alone through operations that follow one another in the ROM, and the run of the sleep loop
(20_memory.md R68, 44_sleep.md R203). -/

namespace Sys2Proof.Machine

open Sys2Proof.Safety

/-- The operations that always complete and lead to the next index. -/
def advances : Instr → Bool
  | .ctlJmp _ | .adcWait | .slpWait => false
  | _ => true

theorem Performs.upc_lpState_of_advances {i : Instr} {s t : State} (h : Performs i s t) (straight : advances i = true) :
    t.upc = s.upc + 1#8 ∧ t.lpState = s.lpState := by
  cases h
  case ctlJmp | adcWaitCompletes | adcWaitHolds | slpWaitCompletes | slpWaitHolds => exact nomatch straight
  all_goals exact ⟨rfl, rfl⟩

/-- A list that stands at place `n`: its head is there, and the rest stands at the next place. -/
theorem cons_prefix_drop {α : Type*} {x : α} {xs l : List α} {n : Nat} (placed : x :: xs <+: l.drop n) :
    l[n]? = some x ∧ xs <+: l.drop (n + 1) := by
  obtain ⟨rest, split⟩ := placed
  constructor
  · rw [← Nat.add_zero n, ← List.getElem?_drop, ← split]
    rfl
  · rw [← List.drop_drop, ← split]
    exact ⟨rest, rfl⟩

/-- The next index of `MAIN_LOOP` does not wrap. -/
theorem toNat_succ_of_mainLoop {i : Instr} {u : Byte} (placed : mainLoop[u.toNat]? = some i) :
    (u + 1#8).toNat = u.toNat + 1 := by
  obtain ⟨inside, _⟩ := List.getElem?_eq_some_iff.mp placed
  have length : mainLoop.length = 33 := by decide
  bv_omega

/-- Straight operations that stand at `upc` in the ROM are performed by as many moves of SEQ. -/
theorem movesTo_of_execAll {is : List Instr} {s t : State} (rom : s.text = controlRom) (awake : s.lpState = .run)
    (straight : is.all advances = true) (placed : is <+: mainLoop.drop s.upc.toNat) (run : execAll is s = .next t) :
    MovesTo (List.replicate is.length .seq) s t := by
  induction is generalizing s with
  | nil => cases run; exact .nil _
  | cons i is ih =>
    obtain ⟨here, following⟩ := cons_prefix_drop placed
    obtain ⟨straight, straights⟩ := Bool.and_eq_true_iff.mp straight
    cases performed : exec i s with
    | next u =>
      have performs := exec_eq_next_iff.mp performed
      obtain ⟨upc, lp⟩ := performs.upc_lpState_of_advances straight
      rw [← toNat_succ_of_mainLoop here, ← upc] at following
      rw [performs.execAll_cons] at run
      exact .seq awake (fetch_of_mainLoop rom here) performs
        (ih ((exec_text performed).trans rom) (lp.trans awake) straights following run)
    | fault r => cases r
    | refused r => simp [execAll, performed] at run

/-- The moves of `n` iterations of SLP.WAIT (95_test_vectors.md 2.7). -/
def sleepMoves (n : Nat) : List Move := (List.replicate n [Move.seq, Move.alarmExpire, Move.alarmDeliver]).flatten

/-- An expiry of the alarm and the delivery move after it. -/
theorem MovesTo.alarmTick {ms : List Move} {s u : State} (rest : MovesTo ms (alarmTick s) u) :
    MovesTo (.alarmExpire :: .alarmDeliver :: ms) s u :=
  .cons rfl (.cons rfl rest)

/-- As long as the count lasts, `sleepCycles` is a run of the machine with SEQ at SLP.WAIT. -/
theorem movesTo_of_sleepCycles {n : Nat} {s t : State} (count : n ≤ s.sleepCnt.toNat) (awake : s.lpState = .run)
    (enabled : s.wakeEn = true) (fetched : s.fetch = some (encode .slpWait)) (run : sleepCycles n s = .next t) :
    MovesTo (sleepMoves n) s t := by
  induction n generalizing s with
  | zero => cases run; exact .nil _
  | succ n ih =>
    have left : s.sleepCnt ≠ 0#8 := by bv_omega
    have holds := Performs.slpWaitHolds s left
    have rest : n ≤ (s.sleepCnt - 1#8).toNat := by bv_omega
    rw [sleepCycles, holds.exec_eq] at run
    refine .seq awake fetched holds (.alarmTick ?_)
    have tick := alarmTick_of_held (s := { s with
      sleepCnt := s.sleepCnt - 1#8, lpState := .deep, trace := s.trace ++ [.lp .deep] }) enabled nofun
    simp only [tick] at run ⊢
    exact ih rest rfl enabled fetched run

end Sys2Proof.Machine
end

section
/-! SUPPORT. One iteration of the main loop part by part (45_control.md R226): the state after each part, and the
run that leads there. -/

namespace Sys2Proof.Machine

open Sys2Proof.Safety

/-- The events of READ_TEMPERATURE (41_adc.md R140). -/
def samplingEvents : List Event :=
  [.sensor true, .adcCfg adcConfigured, .adcEn true true, .adcStart, .lp .light, .lp .run, .adcStart, .lp .light,
    .lp .run, .adcEn false false, .sensor false]

/-- The state after READ_TEMPERATURE from a loop boundary, the second conversion having given `d`. -/
def State.sampled (s : State) (d : Sample) : State :=
  { atLoopBoundary s with
    upc := 0x09#8, adcCfg := adcConfigured, adcData := d, convDone := true
    reading := sampleReading d, lfsr := lfsrMix s.lfsr (sampleLowByte d), trace := s.trace ++ samplingEvents }

theorem movesTo_sampled (s : State) (a1 a2 : Sample) :
    MovesTo (samplingMoves a1 a2) (atLoopBoundary s) (s.sampled a2) := by
  have run := movesTo_sampling s a1 a2
  simp only [List.append_assoc] at run
  exact run

/-- The state after BUILD_PACKET (30_encoding.md R86). -/
def State.packed (s : State) : State :=
  { s with
    seqNo := s.seqNo + 1#16, upc := s.upc + 2#8
    pkt := ({ s with seqNo := s.seqNo + 1#16 }.layPacket Config.nodeId Config.typeTemp).pkt }

theorem execAll_buildPacket (s : State) : execAll buildPacket s = .next s.packed := by
  have upc : s.upc + 1#8 + 1#8 = s.upc + 2#8 := by
    rw [BitVec.add_assoc]
    rfl
  rw [State.packed, ← upc]
  exact ((Performs.pktSeqinc s).execAll_cons _).trans ((Performs.pktBuild _).execAll_cons [])

/-- The state after the first three operations of DEEP_SLEEP: a random byte drawn, the count taken from it, the
alarm armed. -/
def State.armed (s : State) : State :=
  { s with
    lfsr := lfsrNext Config.lfsrReseed s.lfsr
    rnd := (lfsrNext Config.lfsrReseed s.lfsr).extractLsb' 0 8
    sleepCnt := sleepIterations ((lfsrNext Config.lfsrReseed s.lfsr).extractLsb' 0 8)
    alarmFlag := false, wakeEn := true, upc := s.upc + 3#8, trace := s.trace ++ [.almReset, .wakeEn true] }

theorem execAll_arm (s : State) : execAll [.lfsrNext, .slpCalc, .slpArm] s = .next s.armed := by
  have upc : s.upc + 1#8 + 1#8 + 1#8 = s.upc + 3#8 := by
    rw [BitVec.add_assoc, BitVec.add_assoc]
    rfl
  rw [State.armed, ← upc]
  exact ((Performs.lfsrNext s).execAll_cons _).trans
    (((Performs.slpCalc _).execAll_cons _).trans ((Performs.slpArm _).execAll_cons []))

/-- The 21 operations between the sampling and SLP.WAIT. -/
theorem movesTo_armed {s : State} (rom : s.text = controlRom) (awake : s.lpState = .run) (upc : s.upc = 0x09#8) :
    MovesTo (List.replicate 21 .seq) s s.packed.transmitted.armed := by
  have placed : buildPacket ++ (transmit ++ [.lfsrNext, .slpCalc, .slpArm]) <+: mainLoop.drop s.upc.toNat := by
    rw [upc]
    decide
  refine movesTo_of_execAll rom awake (by decide) placed ?_
  rw [execAll_append (execAll_buildPacket s), execAll_append (execAll_transmit _), execAll_arm]

/-- The events of the wait for the alarm and of SLP.DISARM. -/
def sleepEvents (n : Nat) : List Event := (List.replicate n [.lp .deep, .lp .run]).flatten ++ [.wakeEn false]

/-- The state after the rest of DEEP_SLEEP and the jump back. -/
def State.slept (s : State) : State :=
  { s with
    sleepCnt := 0#8, wakeEn := false, upc := 0x00#8, trace := s.trace ++ sleepEvents s.sleepCnt.toNat }

/-- SLP.WAIT for its whole count, then SLP.WAIT at 0, SLP.DISARM and CTL.JMP. -/
theorem movesTo_slept {s : State} (rom : s.text = controlRom) (awake : s.lpState = .run) (upc : s.upc = 0x1E#8)
    (enabled : s.wakeEn = true) (fresh : s.alarmFlag = false) :
    MovesTo (sleepMoves s.sleepCnt.toNat ++ List.replicate 3 .seq) s s.slept := by
  have wait : s.fetch = some (encode .slpWait) := fetch_of_mainLoop rom (by rw [upc]; rfl)
  refine (movesTo_of_sleepCycles le_rfl awake enabled wait
    (sleepCycles_of_toNat_eq rfl awake enabled fresh)).append ?_
  refine .seq awake wait (.slpWaitCompletes _ rfl) (.seq awake ?_ (.slpDisarm _)
    (.seq awake ?_ (.ctlJmp _ 0x00#8 ?_) ?_))
  · exact fetch_of_mainLoop rom (by simp only [upc]; rfl)
  · exact fetch_of_mainLoop rom (by simp only [upc]; rfl)
  · simp only [rom]; decide
  · simp only [List.append_assoc]
    exact .nil _

/-- The state after one iteration from a loop boundary, the second conversion having given `d`. -/
def State.iterated (s : State) (d : Sample) : State := (s.sampled d).packed.transmitted.armed.slept

/-- How often SLP.WAIT enters DEEP, from the random word drawn (44_sleep.md R201). -/
theorem sleepIterations_lowByte_toNat (l : Word) : (sleepIterations (l.extractLsb' 0 8)).toNat = 117 + l.toNat % 8 := by
  have base : Config.baseIter = 117 := by decide
  rw [sleepIterations_toNat, base, BitVec.extractLsb'_toNat, Nat.shiftRight_zero]
  omega

theorem movesTo_iterated (s : State) (a1 a2 : Sample) :
    MovesTo
      (iterationMoves a1 a2 (117 + (lfsrNext Config.lfsrReseed (lfsrMix s.lfsr (sampleLowByte a2))).toNat % 8))
      (atLoopBoundary s) (s.iterated a2) := by
  rw [← sleepIterations_lowByte_toNat, iterationMoves, List.append_assoc, List.append_assoc]
  refine (movesTo_sampled s a1 a2).append ((movesTo_armed rfl rfl rfl).append ?_)
  exact movesTo_slept (s := (s.sampled a2).packed.transmitted.armed) rfl rfl rfl rfl rfl

/-- The events of one iteration with `n` sleep iterations. -/
def iterationEvents (slots : List Bool) (tail : Bool) (n : Nat) : List Event :=
  samplingEvents ++ transmitEvents slots tail ++ [.almReset, .wakeEn true] ++ sleepEvents n

/-- An iteration gains its events, and the frame among them is that of the packet it leaves. -/
theorem State.iterated_trace (s : State) (d : Sample) :
    (s.iterated d).trace = s.trace ++ iterationEvents (frameSlots ((s.iterated d).pktBytes Config.pktLen))
      (((s.iterated d).pktRead (Config.pktLen - 1)).getLsbD 7)
      (s.sampled d).packed.transmitted.armed.sleepCnt.toNat := by
  simp only [iterationEvents, ← List.append_assoc]
  rfl

/-- Only SLP.WAIT enters DEEP. -/
theorem countP_deep_iterationEvents (slots : List Bool) (tail : Bool) (n : Nat) :
    (iterationEvents slots tail n).countP (· == .lp .deep) = n := by
  have sampling : samplingEvents.countP (· == .lp .deep) = 0 := rfl
  have slot : (slotEvents slots).countP (· == .lp .deep) = 0 := by
    simp [slotEvents, List.countP_flatMap, Function.comp_def]
  have transmit : (transmitEvents slots tail).countP (· == .lp .deep) = 0 := by
    simp [transmitEvents, slot]
  have sleep : (sleepEvents n).countP (· == .lp .deep) = n := by
    simp [sleepEvents, List.countP_flatten]
  simp [iterationEvents, sampling, transmit, sleep]

/-- The events an observer of the line sees. -/
def onLine : Event → Bool
  | .oe _ | .level _ | .wait _ => true
  | _ => false

/-- The waveform is made of those. -/
theorem waveformFrom_filter_onLine (oe level : Bool) (es : List Event) :
    waveformFrom oe level (es.filter onLine) = waveformFrom oe level es := by
  induction es generalizing oe level with
  | nil => rfl
  | cons e es ih => cases e <;> simp [List.filter_cons, onLine, waveformFrom, ih]

/-- So the waveform of an iteration is that of its transmission. -/
theorem waveformFrom_iterationEvents (slots : List Bool) (tail : Bool) (n : Nat) :
    waveformFrom false false (iterationEvents slots tail n) = waveformFrom false false (transmitEvents slots tail) := by
  have sampling : samplingEvents.filter onLine = [] := rfl
  have sleep : (sleepEvents n).filter onLine = [] := by
    simp [sleepEvents, onLine]
  rw [← waveformFrom_filter_onLine, ← waveformFrom_filter_onLine false false (transmitEvents slots tail)]
  simp [iterationEvents, sampling, sleep, onLine]

end Sys2Proof.Machine
end

section
/-! PROOFS. The statements of 45_control.md: SEQ's step, the jump, the control ROM, its invariant and one
iteration of the main loop. -/

namespace Sys2Proof.Proofs

open Sys2Proof Sys2Proof.Machine Sys2Proof.Safety

/-- Settles O57: SEQ performs the operation at its index of the ROM, the collaborators start and hold nothing, and a
power loss establishes the invariant anew. -/
theorem controlRomNeverRefuses : Obligations.ControlRomNeverRefuses := by
  intro s h
  have hp := State.popMove_romInv h
  unfold step
  cases s.nextMove with
  | seq => exact seqStep_romInv hp
  | adcDone d =>
    exact ⟨_, rfl, (State.adcComplete_frame _ d).romInv (by simp) (State.adcComplete_lpState _ d) hp⟩
  | alarmExpire => exact ⟨_, rfl, (State.alarmExpire_frame _).romInv id (.inl rfl) hp⟩
  | alarmDeliver =>
    exact ⟨_, rfl, (State.alarmDeliver_frame _).romInv (by simp) (State.alarmDeliver_lpState _) hp⟩
  | powerLoss => exact ⟨_, rfl, State.powerLoss_romInv hp.text⟩

/-- Settles O10: the jump inside and outside the text; of the other operations two may hold, and the rest advance. -/
theorem jumpGoesToItsTargetInsideTheText : Obligations.JumpGoesToItsTargetInsideTheText := by
  refine ⟨fun imm => rfl, fun imm s => ⟨fun inside => ?_, fun outside => ?_⟩, fun i s t notJump h => ?_⟩
  · exact (Performs.ctlJmp s imm inside).exec_eq
  · have noTarget : jumpTarget s.text.length imm = none := if_neg outside.not_gt
    simp only [exec, execCtlJmp, noTarget]
  · obtain ⟨imm, jump, _⟩ | next | ⟨same, _⟩ | ⟨same, _⟩ := operationsAdvanceOrHold i s t h
    · exact absurd jump (notJump imm)
    · exact .inr next
    · exact .inl same
    · exact .inl same

/-- Settles O60: the run from the boundary part by part, the packet as laid and checksummed in it, and an observer's
reading of the events gained. -/
theorem oneIterationOfTheMainLoop : Obligations.OneIterationOfTheMainLoop := by
  intro s a1 a2 boundary
  have run := (movesTo_iterated s a1 a2).run
  rw [boundary.atLoopBoundary_eq] at run
  have count := sleepIterations_lowByte_toNat (lfsrNext Config.lfsrReseed (lfsrMix s.lfsr (sampleLowByte a2)))
  refine ⟨s.iterated a2, _, _, _, run, ?_, rfl, rfl, rfl, rfl, rfl, rfl, rfl, rfl,
    State.decodePacket_layPacket_storeChecksum _ _ _ _, s.iterated_trace a2, ?_, (frameLevels_pktBytes _).symm, ?_⟩
  · exact ⟨rfl, rfl, rfl, ⟨rfl, rfl⟩, ⟨rfl, rfl⟩, ⟨rfl, rfl, rfl⟩, rfl⟩
  · exact (countP_deep_iterationEvents _ _ _).trans count
  · rw [waveformFrom_iterationEvents, waveformFrom_transmitEvents]

/-- Settles O1: what SEQ's move answers in each case of the fetch and the decoder. -/
theorem sequencerPerformsTheDecodedWord : Obligations.SequencerPerformsTheDecodedWord := by
  refine ⟨rfl, rfl, fun s next => ?_⟩
  have stepped : step s = seqStep s.popMove := by rw [step, next]; rfl
  have fetched : s.popMove.fetch = s.text[s.upc.toNat]? := by rw [State.fetch, s.popMove_text, s.popMove_upc]
  rw [stepped]
  refine ⟨?_, fun held => ?_, fun awake => ?_⟩
  · rw [s.popMove_eq]
  · exact if_neg (s.popMove_lpState ▸ held)
  rw [← s.popMove_lpState] at awake
  refine ⟨fun outside => ?_, fun w placed => ⟨fun why illegal => ?_, fun i legal => ?_⟩⟩
  · have noWord : s.popMove.fetch = none := fetched.trans (List.getElem?_eq_none outside)
    simp only [seqStep, if_pos awake, noWord]
  · simp only [seqStep, if_pos awake, fetched, placed, illegal]
  · exact seqStep_of_decode awake (fetched.trans placed) legal

/-- Settles O9: the encoder evaluated at each operation. -/
theorem mainLoopAssemblesToTheRom : Obligations.MainLoopAssemblesToTheRom :=
  ⟨map_encode_mainLoop, rfl⟩

end Sys2Proof.Proofs
end

section
/-! SUPPORT. The signals (60_exceptions.md sections 3 and 4): what a delivery does in each power state, that the two
deliveries commute, and what a step can do to the power state. -/

namespace Sys2Proof.Machine

open Sys2Proof.Safety

/-- A step is the next move, made where it is used up. -/
theorem step_of_nextMove {s : State} {m : Move} (next : s.nextMove = m) : step s = runMove m s.popMove := by
  rw [step, next]

/-- SEQ in RUN is not woken (60_exceptions.md R245). -/
theorem State.wake_of_awake {s : State} (awake : s.lpState = .run) : s.wake = s :=
  if_pos awake

/-- CONV taken in RUN only sets its flag (60_exceptions.md R246). -/
theorem State.takeConv_of_awake {s : State} (awake : s.lpState = .run) : s.takeConv = { s with convDone := true } :=
  State.wake_of_awake awake

/-- ALARM taken in RUN only clears its flag (60_exceptions.md R247). -/
theorem State.takeAlarm_of_awake {s : State} (awake : s.lpState = .run) : s.takeAlarm = { s with alarmFlag := false } :=
  State.wake_of_awake awake

/-- ALARM taken while SEQ is held also wakes it (60_exceptions.md R247). -/
theorem State.takeAlarm_of_held {s : State} (held : s.lpState ≠ .run) :
    s.takeAlarm = { s with alarmFlag := false, lpState := .run, trace := s.trace ++ [.lp .run] } :=
  State.wake_of_held held

/-- Without a conversion in progress nothing completes. -/
theorem State.adcComplete_of_idle {s : State} (d : Sample) (idle : s.adcBusy = false) : s.adcComplete d = s := by
  simp [State.adcComplete, idle]

/-- With its signal disabled a completion only stores the sample. -/
theorem State.adcComplete_of_disabled {s : State} (d : Sample) (busy : s.adcBusy = true) (disabled : s.adcIe = false) :
    s.adcComplete d = { s with adcBusy := false, adcData := d } := by
  simp [State.adcComplete, State.convDeliverable, busy, disabled]

/-- With its signal enabled a completion stores the sample and delivers CONV. -/
theorem State.adcComplete_of_enabled {s : State} (d : Sample) (busy : s.adcBusy = true) (enabled : s.adcIe = true) :
    s.adcComplete d = { s with adcBusy := false, adcData := d }.takeConv := by
  simp [State.adcComplete, State.convDeliverable, busy, enabled]

/-- A completion in RUN with its signal enabled stores the sample and sets the flag. -/
theorem State.adcComplete_of_awake {s : State} (d : Sample) (busy : s.adcBusy = true) (enabled : s.adcIe = true)
    (awake : s.lpState = .run) :
    s.adcComplete d = { s with adcBusy := false, adcData := d, convDone := true } :=
  (State.adcComplete_of_enabled d busy enabled).trans (State.takeConv_of_awake awake)

/-- An enabled and pending ALARM is taken. -/
theorem State.alarmDeliver_of_pending {s : State} (enabled : s.wakeEn = true) (pending : s.alarmFlag = true) :
    s.alarmDeliver = s.takeAlarm := by
  simp [State.alarmDeliver, State.alarmDeliverable, enabled, pending]

/-- A disabled ALARM is not taken. -/
theorem State.alarmDeliver_of_disabled {s : State} (disabled : s.wakeEn = false) : s.alarmDeliver = s := by
  simp [State.alarmDeliver, State.alarmDeliverable, disabled]

/-- A completion does not decide whether ALARM is delivered. -/
theorem State.adcComplete_alarmDeliverable (s : State) (d : Sample) :
    (s.adcComplete d).alarmDeliverable = s.alarmDeliverable := by
  obtain ⟨_, he⟩ | ⟨_, _, he⟩ | ⟨_, _, he⟩ := s.adcComplete_cases d <;> simp [State.alarmDeliverable, he]

/-- Storing a sample commutes with taking ALARM. -/
theorem State.takeAlarm_stored (s : State) (d : Sample) :
    { s with adcBusy := false, adcData := d }.takeAlarm = { s.takeAlarm with adcBusy := false, adcData := d } := by
  unfold State.takeAlarm State.wake
  split <;> rfl

/-- Taking the two signals commutes: whichever comes first wakes SEQ, and the other finds it in RUN. -/
theorem State.takeConv_takeAlarm (s : State) : s.takeConv.takeAlarm = s.takeAlarm.takeConv := by
  calc s.takeConv.takeAlarm
    _ = { s.takeConv with alarmFlag := false } := State.takeAlarm_of_awake s.takeConv_lpState
    _ = { s.takeAlarm with convDone := true } := by
      unfold State.takeConv State.takeAlarm State.wake
      split <;> rfl
    _ = s.takeAlarm.takeConv := (State.takeConv_of_awake s.takeAlarm_lpState).symm

/-- A completion commutes with taking ALARM, whether or not it delivers CONV. -/
theorem State.adcComplete_takeAlarm (s : State) (d : Sample) :
    (s.adcComplete d).takeAlarm = s.takeAlarm.adcComplete d := by
  have busyKept := s.takeAlarm_adcBusy
  have enableKept := s.takeAlarm_adcIe
  obtain ⟨idle, he⟩ | ⟨busy, disabled, he⟩ | ⟨busy, enabled, he⟩ := s.adcComplete_cases d
  · rw [he, State.adcComplete_of_idle d (busyKept.trans idle)]
  · rw [he, State.adcComplete_of_disabled d (busyKept.trans busy) (enableKept.trans disabled), State.takeAlarm_stored]
  · rw [he, State.adcComplete_of_enabled d (busyKept.trans busy) (enableKept.trans enabled),
      State.takeConv_takeAlarm, State.takeAlarm_stored]

/-- An operation leaves the power state, or is one of the two waits, holding. -/
theorem exec_lpState {i : Instr} {s t : State} (h : exec i s = .next t) :
    t.lpState = s.lpState ∨ (i = .adcWait ∧ t.lpState = .light) ∨ (i = .slpWait ∧ t.lpState = .deep) := by
  cases exec_eq_next_iff.mp h
  case adcWaitHolds => exact .inr (.inl ⟨rfl, rfl⟩)
  case slpWaitHolds => exact .inr (.inr ⟨rfl, rfl⟩)
  all_goals exact .inl rfl

/-- `Suspends s t`: the next move is SEQ's, and the wait it performs holds in `t`. -/
def Suspends (s t : State) : Prop :=
  s.nextMove = .seq ∧ ∃ w, s.fetch = some w ∧
    ((decode w = .ok .adcWait ∧ t.lpState = .light) ∨ (decode w = .ok .slpWait ∧ t.lpState = .deep))

/-- `Wakes s`: the next move is one that ends a hold. -/
def Wakes (s : State) : Prop :=
  s.nextMove = .powerLoss ∨
    ((∃ d, s.nextMove = .adcDone d) ∧ s.adcBusy = true ∧ s.adcIe = true) ∨
    (s.nextMove = .alarmDeliver ∧ s.wakeEn = true ∧ s.alarmFlag = true)

/-- Everything a step can do to the power state (60_exceptions.md R260). -/
theorem step_lpState {s t : State} (h : step s = .next t) :
    t.lpState = s.lpState ∨ (s.lpState = .run ∧ Suspends s t) ∨ (t.lpState = .run ∧ Wakes s) := by
  rw [← s.popMove_lpState]
  obtain ⟨next, hq⟩ | ⟨d, next, rfl⟩ | ⟨_, rfl⟩ | ⟨next, rfl⟩ | ⟨next, rfl⟩ := step_next h
  · obtain ⟨_, rfl⟩ | ⟨awake, w, i, fetched, decoded, performed⟩ := seqStep_next hq
    · exact .inl rfl
    · have fetched : s.fetch = some w := by simpa [State.fetch] using fetched
      obtain same | ⟨rfl, light⟩ | ⟨rfl, deep⟩ := exec_lpState performed
      · exact .inl same
      · exact .inr (.inl ⟨awake, next, w, fetched, .inl ⟨decoded, light⟩⟩)
      · exact .inr (.inl ⟨awake, next, w, fetched, .inr ⟨decoded, deep⟩⟩)
  · obtain ⟨_, he⟩ | ⟨_, _, he⟩ | ⟨busy, enabled, he⟩ := s.popMove.adcComplete_cases d <;> rw [he]
    · exact .inl rfl
    · exact .inl rfl
    · rw [s.popMove_adcBusy] at busy
      rw [s.popMove_adcIe] at enabled
      exact .inr (.inr ⟨State.takeConv_lpState _, .inr (.inl ⟨⟨d, next⟩, busy, enabled⟩)⟩)
  · exact .inl rfl
  · obtain ⟨_, he⟩ | ⟨enabled, pending, he⟩ := s.popMove.alarmDeliver_cases <;> rw [he]
    · exact .inl rfl
    · rw [s.popMove_wakeEn] at enabled
      rw [s.popMove_alarmFlag] at pending
      exact .inr (.inr ⟨State.takeAlarm_lpState _, .inr (.inr ⟨next, enabled, pending⟩)⟩)
  · exact .inr (.inr ⟨rfl, .inl next⟩)

/-- Using up a move leaves a hung state hung. -/
theorem State.popMove_hung {s : State} (hung : Hung s) : Hung s.popMove := by
  rw [s.popMove_eq]
  exact hung

/-- Using up a move changes no output port. -/
theorem State.popMove_ports (s : State) : s.popMove.ports = s.ports := by
  rw [s.popMove_eq]
  rfl

/-- In a hung state every move but a power loss leaves SEQ held and every output as it is (60_exceptions.md R242). -/
theorem runMove_of_hung {s : State} {m : Move} (hung : Hung s) (noLoss : m ≠ .powerLoss) :
    ∃ t, runMove m s = .next t ∧ Hung t ∧
      t.upc = s.upc ∧ t.lpState = s.lpState ∧ t.ports = s.ports ∧ t.trace = s.trace := by
  have ⟨held, noConv, noAlarm⟩ := hung
  cases m with
  | seq => exact ⟨s, if_neg held, hung, rfl, rfl, rfl, rfl⟩
  | adcDone d =>
    refine ⟨s.adcComplete d, rfl, ?_⟩
    obtain ⟨_, he⟩ | ⟨_, _, he⟩ | ⟨busy, enabled, _⟩ := s.adcComplete_cases d
    · rw [he]
      exact ⟨hung, rfl, rfl, rfl, rfl⟩
    · rw [he]
      exact ⟨⟨held, .inl rfl, noAlarm⟩, rfl, rfl, rfl, rfl⟩
    · simp [busy, enabled] at noConv
  | alarmExpire => exact ⟨s.alarmExpire, rfl, hung, rfl, rfl, rfl, rfl⟩
  | alarmDeliver =>
    exact ⟨s, congrArg _ (State.alarmDeliver_of_disabled noAlarm), hung, rfl, rfl, rfl, rfl⟩
  | powerLoss => exact absurd rfl noLoss

end Sys2Proof.Machine
end

section
/-! PROOFS. The statements of 60_exceptions.md: the two signals, the power states, and the hang. -/

namespace Sys2Proof.Proofs

open Sys2Proof Sys2Proof.Machine Sys2Proof.Safety

/-- Settles O46: a completion neither enables nor disables ALARM, and commutes with taking it. -/
theorem signalDeliveriesCommute : Obligations.SignalDeliveriesCommute := by
  intro s d
  unfold State.alarmDeliver
  rw [State.adcComplete_alarmDeliverable]
  split
  · exact s.adcComplete_takeAlarm d
  · rfl

/-- Settles O53: of what a step can do to the power state, only a suspension leaves RUN and only a wake enters it. -/
theorem onlyWaitsSuspendAndOnlySignalsWake : Obligations.OnlyWaitsSuspendAndOnlySignalsWake := by
  intro s t h
  obtain same | ⟨awake, suspends⟩ | ⟨woken, wakes⟩ := step_lpState h
  · exact ⟨fun awake held => absurd (same.trans awake) held, fun _ changed => absurd same changed⟩
  · exact ⟨fun _ _ => suspends, fun held _ => absurd awake held⟩
  · exact ⟨fun _ held => absurd woken held, fun _ _ => ⟨woken, wakes⟩⟩

/-- Settles O54: each move made in the hung state, after the move is used up. -/
theorem theHangPersists : Obligations.TheHangPersists := by
  intro s hung noLoss
  have moved := runMove_of_hung (State.popMove_hung hung) noLoss
  rwa [s.popMove_upc, s.popMove_lpState, s.popMove_ports, s.popMove_trace] at moved

/-- Settles O26: the completion with CONV disabled, taken in RUN, and taken while SEQ is held. -/
theorem completedConversionDeliversItsSignal : Obligations.CompletedConversionDeliversItsSignal := by
  intro s d next
  simp only [step_of_nextMove next, runMove]
  rw [← s.popMove_adcBusy, ← s.popMove_adcIe, ← s.popMove_lpState, ← s.popMove_trace]
  refine ⟨fun busy disabled => ?_, fun busy enabled awake => ?_, fun busy enabled held => ?_⟩
  · rw [State.adcComplete_of_disabled d busy disabled]
  · rw [State.adcComplete_of_awake d busy enabled awake]
  · rw [State.adcComplete_of_held d busy enabled held]

/-- Settles O44: the expiry, and the delivery of its signal in RUN and while SEQ is held. -/
theorem alarmExpiryIsTakenWhenEnabled : Obligations.AlarmExpiryIsTakenWhenEnabled := by
  refine ⟨fun s next => step_of_nextMove next, fun s next => ?_⟩
  simp only [step_of_nextMove next, runMove]
  rw [← s.popMove_wakeEn, ← s.popMove_alarmFlag, ← s.popMove_lpState, ← s.popMove_trace]
  refine ⟨fun enabled pending awake => ?_, fun enabled pending held => ?_⟩
  · rw [State.alarmDeliver_of_pending enabled pending, State.takeAlarm_of_awake awake]
  · rw [State.alarmDeliver_of_pending enabled pending, State.takeAlarm_of_held held]

end Sys2Proof.Proofs
end

section
/-! PROOFS. The statements of 70_reset_and_hazards.md: the reset values the spec gives, and the power loss. -/

namespace Sys2Proof.Proofs

open Sys2Proof Sys2Proof.Machine

/-- Settles O2: each value is the one `State.reset` lists (70_reset_and_hazards.md R281, 10_state.md R46). -/
theorem resetLeavesTheSpecifiedValues : Obligations.ResetLeavesTheSpecifiedValues :=
  ⟨rfl, rfl, rfl, rfl, rfl, rfl, rfl, rfl, rfl, rfl, rfl, rfl, rfl, rfl⟩

/-- Settles O3: the move made is the power loss, which keeps the text and the schedule as the used-up move left
them, and using up a move leaves the text. -/
theorem powerLossLeavesTheResetState : Obligations.PowerLossLeavesTheResetState := by
  intro s next
  calc step s
    _ = .next s.popMove.powerLoss := step_of_nextMove next
    _ = .next { State.reset with text := s.text, moves := s.popMove.moves, tick := s.popMove.tick } := by
      rw [State.powerLoss, s.popMove_text]

end Sys2Proof.Proofs
end

section
/-! SUPPORT. The moves that find their condition false (log entry 3), and a power loss of the state at reset. -/

namespace Sys2Proof.Machine

/-- An ALARM that is not pending is not taken. -/
theorem State.alarmDeliver_of_notPending {s : State} (notPending : s.alarmFlag = false) : s.alarmDeliver = s := by
  simp [State.alarmDeliver, State.alarmDeliverable, notPending]

/-- SEQ performs nothing while held (60_exceptions.md R260). -/
theorem seqStep_of_held {s : State} (held : s.lpState ≠ .run) : seqStep s = .next s :=
  if_neg held

/-- The state at reset is the one a power loss there leaves (70_reset_and_hazards.md R280). -/
theorem State.powerLoss_reset : State.reset.powerLoss = State.reset := rfl

end Sys2Proof.Machine
end

section
/-! PROOFS. The statements about the machine as a whole: disabled moves, and the invariants at reset. -/

namespace Sys2Proof.Proofs

open Sys2Proof Sys2Proof.Machine

/-- Settles O45: using up the move leaves its condition as false as it was, and the agent then does nothing. -/
theorem disabledMovesChangeNothing : Obligations.DisabledMovesChangeNothing := by
  rintro s (⟨⟨d, next⟩, idle⟩ | ⟨next, disabled | notPending⟩ | ⟨next, held⟩) <;> rw [step_of_nextMove next]
  · exact congrArg _ (State.adcComplete_of_idle d (s.popMove_adcBusy.trans idle))
  · exact congrArg _ (State.alarmDeliver_of_disabled (s.popMove_wakeEn.trans disabled))
  · exact congrArg _ (State.alarmDeliver_of_notPending (s.popMove_alarmFlag.trans notPending))
  · exact seqStep_of_held (s.popMove_lpState ▸ held)

/-- Settles O56: a power loss establishes the data invariant, and at reset it changes nothing. -/
theorem resetMeetsTheDataInvariant : Obligations.ResetMeetsTheDataInvariant := by
  unfold Obligations.ResetMeetsTheDataInvariant
  rw [← State.powerLoss_reset]
  exact State.powerLoss_dataInv State.reset

/-- Settles O58: a power loss with the ROM in place establishes its invariant, and at reset it changes nothing. -/
theorem resetMeetsTheRomInvariant : Obligations.ResetMeetsTheRomInvariant := by
  have rom : State.reset.text = controlRom := rfl
  unfold Obligations.ResetMeetsTheRomInvariant
  rw [← State.powerLoss_reset]
  exact State.powerLoss_romInv rom

end Sys2Proof.Proofs
end
